-- ==== Sys2Proof/Word.lean ====
section
/-! DEFINITION. The word types of the block (00_scope.md R8, R9): a 32-bit register or command word, a 16-bit
operand field, a byte of the datagram buffer, and a 13-bit PID. -/

namespace Sys2Proof

/-- A register or command word, REG_WIDTH = CNT_WIDTH = 32 bits (R8). -/
abbrev Word := BitVec 32

/-- An operand field or 16-bit result field, OPND_WIDTH = 16 bits (R8). -/
abbrev Half := BitVec 16

/-- One byte of the datagram buffer (R31). -/
abbrev Byte := BitVec 8

/-- A PID, PID_BITS = 13 bits (R8). -/
abbrev Pid := BitVec 13

end Sys2Proof
end

