-- ==== Sys2Proof/Syntax.lean ====
section
/-! DEFINITION. The commands of the block, one constructor per row of spec/opcode_table.json (30_encoding.md R59).
No command word carries an operand (R60), so no constructor has an argument. -/

namespace Sys2Proof

/-- The eight commands (R59). -/
inductive Instr
  /-- NOP (R73). -/
  | nop
  /-- READ_PID: read the PID of the packet at ARG_OFFSET (R78). -/
  | readPid
  /-- WRITE_PID: write a PID into the packet at ARG_OFFSET (R79). -/
  | writePid
  /-- IS_SYNCED: test the sync byte of the packet at ARG_OFFSET (R80). -/
  | isSynced
  /-- RESOLVE: resolve the datagram length in LENGTH (R86). -/
  | resolve
  /-- MEMBER: test ARG_VALUE against the Patch Set (R95). -/
  | member
  /-- SCAN_PATCH: scan and patch ARG_COUNT slices from ARG_OFFSET (R96). -/
  | scanPatch
  /-- PROCESS: resolve the datagram, then scan and patch it (R97). -/
  | process
  deriving DecidableEq, Repr

end Sys2Proof
end

