-- ==== Sys2Proof/Decode.lean ====
section
/-! DEFINITION. Decoding a command word (40_command_cycle.md R70, 30_encoding.md R58, R61), total and rejecting by name,
and the encoder from the table of R59. -/

namespace Sys2Proof

/-- Why a command word is illegal (R61). The machine answers either with ERR.ILLEGAL (R111). -/
inductive DecodeError
  /-- RSV, bits [31:4], is not 0. -/
  | reservedBits
  /-- OP, bits [3:0], is 8 or more. -/
  | reservedOpcode
  deriving DecidableEq, Repr

/-- The field OP of a command word, bits [3:0] (R58). -/
def opField (w : Word) : Nat := (w.extractLsb' 0 4).toNat

/-- The field RSV of a command word, bits [31:4] (R58). -/
def rsvField (w : Word) : Nat := (w.extractLsb' 4 28).toNat

/-- Decoding at the engine step (R70): RSV must be 0 and OP below 8. -/
def decode (w : Word) : Except DecodeError Instr :=
  if rsvField w ≠ 0 then .error .reservedBits
  else match opField w with
    | 0 => .ok .nop
    | 1 => .ok .readPid
    | 2 => .ok .writePid
    | 3 => .ok .isSynced
    | 4 => .ok .resolve
    | 5 => .ok .member
    | 6 => .ok .scanPatch
    | 7 => .ok .process
    | _ => .error .reservedOpcode

/-- The command word of an instruction, the column `word` of R59's table. -/
def encode : Instr → Word
  | .nop => 0x00000000
  | .readPid => 0x00000001
  | .writePid => 0x00000002
  | .isSynced => 0x00000003
  | .resolve => 0x00000004
  | .member => 0x00000005
  | .scanPatch => 0x00000006
  | .process => 0x00000007

/-- The word a register write of `w` puts into CMD, where only the low `nbits` bits of `w` are given and every bit above
them is 0. A command word is transferred as one 32-bit integer, so there is no byte order (R41). -/
def tableWord (nbits w : Nat) : Word := BitVec.ofNat 32 (w % 2 ^ nbits)

/-- The instruction the decoder reads from an instruction word numbered as spec/opcode_table.json numbers it. -/
def decodeTableWord (nbits w : Nat) : Option Instr :=
  match decode (tableWord nbits w) with
  | .ok i => some i
  | .error _ => none

end Sys2Proof
end

