-- ==== Sys2Proof/Config.lean ====
section
/-! DEFINITION. The parameters of the block with the values this hardware takes (00_scope.md R8), the two identity
constants (10_state.md R19, R20), and the free values: what the spec calls `draw()` (R11), with no body, so that
nothing can be proved about them. -/

namespace Sys2Proof.Config

/-- TS_PKT_LEN: bytes per TS packet and stride of the scanner (R8). -/
@[simp] abbrev tsPktLen : Nat := 188

/-- SYNC_BYTE: the value byte 0 of a valid packet holds (R8). -/
@[simp] abbrev syncByte : Byte := 0x47

/-- PID_MASK: the mask applied to a PID operand (R8). -/
@[simp] abbrev pidMask : Half := 0x1FFF

/-- NULL_PID: the value patched PIDs are set to (R8). -/
@[simp] abbrev nullPid : Nat := 8191

/-- BUF_SIZE: bytes in the datagram buffer (R8). -/
@[simp] abbrev bufSize : Nat := 1400

/-- PATCH_MAX: capacity of the Patch Set (R8). -/
@[simp] abbrev patchMax : Nat := 100

/-- MAX_PKTS: floor(BUF_SIZE / TS_PKT_LEN) (R8). -/
@[simp] abbrev maxPkts : Nat := 7

/-- The constant the ID register reads, ASCII "TSPF" (R3, R19). -/
abbrev idWord : Word := 0x54535046

/-- The constant the PARAMS register reads (R20). -/
abbrev paramsWord : Word := 0xBC640578

/-- The byte the buffer holds at an address after the reset of the given number, until something writes it: R31 and
R130 take it as a `draw()`. A free value (log 3). -/
opaque resetByte : Nat → Nat → Byte

/-- What the n-th unspecified register read of the host returns (R134, R99): a `draw()` of 32 bits. A free value
(log 4). -/
opaque drawWord : Nat → Word

/-- What the n-th unspecified buffer read of the host returns (R134, R104): a `draw()` of 8 bits. A free value
(log 4). -/
opaque drawByte : Nat → Byte

end Sys2Proof.Config
end

