-- ==== Sys2Proof/Machine/Transaction.lean ====
section
/-! DEFINITION. What crosses the host port (30_encoding.md R63): the four kinds of transaction, the values the reads
return, the operations a host program is made of, and the turns of the agents. -/

namespace Sys2Proof.Machine

/-- One host transaction (R63). A register offset is one of 0..4095, so 12 bits (log 12); a buffer address is a
non-negative integer (R37); the width is in bytes and may be illegal. -/
inductive Transaction
  /-- REG_RD: read the register at an offset. -/
  | regRd (off : BitVec 12) (width : Nat)
  /-- REG_WR: write a 32-bit value to the register at an offset. -/
  | regWr (off : BitVec 12) (width : Nat) (data : Word)
  /-- BUF_RD: read the buffer at an address. -/
  | bufRd (addr : Nat) (width : Nat)
  /-- BUF_WR: write an 8-bit value to the buffer at an address. -/
  | bufWr (addr : Nat) (width : Nat) (data : Byte)
  deriving DecidableEq, Repr

/-- What a read gives back to the host (R63); a write gives back nothing. -/
inductive Reply
  /-- The 32-bit value of a REG_RD. -/
  | word (v : Word)
  /-- The 8-bit value of a BUF_RD. -/
  | byte (v : Byte)
  deriving DecidableEq, Repr

/-- What a host program is made of once its lines are expanded: transactions, and the loop `poll` of R65, the only
line whose transactions depend on a value read. -/
inductive HostOp
  /-- One transaction. -/
  | transaction (t : Transaction)
  /-- `poll`: read STATUS again and again until bit 0 of the value read is 0 (R65). -/
  | poll
  deriving DecidableEq, Repr

/-- Who moves (R51, R128): the spec's SCHEDULE is a list of these (log 1). -/
inductive Turn
  /-- The host performs its next transaction. -/
  | host
  /-- The engine takes its step, if STATUS.BUSY = 1 (R67). -/
  | engine
  /-- The reset input is asserted (R128). -/
  | reset
  deriving DecidableEq, Repr

end Sys2Proof.Machine
end

