-- ==== Sys2Proof/Machine/State.lean ====
section
/-! DEFINITION. The architectural state of the block (10_state.md R15), as plain data, and its value after reset
(70_reset_and_hazards.md R129). Registers that hold nothing have no field: ID and PARAMS are constants (R19, R20), CMD and
PATCH_PUSH keep no value (R24, R30), STATUS.ERRSUM is the OR of ERR (R22), and reserved fields read 0 (R18). -/

namespace Sys2Proof.Machine

/-- The reasons the machine stops with a fault. -/
inductive Fault
  /-- MemRead or MemWrite at an address that is not one of 0..1399, for which R39 gives no meaning. Raised by the engine's
  buffer operations only; every command checks its window first (R48), so no step raises it. Safe (log 7). -/
  | bufferAddress (addr : Nat)
  deriving DecidableEq, Repr

/-- The reasons the machine has no meaning for an instruction. -/
inductive Refusal
  /-- An arm of `exec` whose instruction has no meaning yet. No arm raises it. Safe. -/
  | notModelled (mnemonic : String)
  deriving DecidableEq, Repr

/-- The stored bytes of the datagram buffer: address and byte, addresses strictly rising. An unlisted address has no
stored byte: nothing has written it since reset (log 3). -/
abbrev Memory := List Host.Cell

/-- The canonical form of the stored bytes: addresses strictly rising, each one of 0..1399. -/
abbrev Memory.wf (m : Memory) : Prop :=
  m.Pairwise (fun x y => x.1 < y.1) ∧ ∀ c ∈ m, c.1 < 1400

structure State where
  /-- CTRL.LOCK (R21). -/
  lock : Bool
  /-- STATUS.BUSY (R22). -/
  busy : Bool
  /-- STATUS.DONE (R22). -/
  done : Bool
  /-- ERR[5:0] (R23): bit 0 ILLEGAL, 1 UNLOCKED, 2 RANGE, 3 CFG, 4 HAZARD, 5 BUS. -/
  err : BitVec 6
  /-- LATCHED_CMD (R32). -/
  latchedCmd : Word
  /-- LENGTH.LEN (R25). -/
  length : Half
  /-- ARG_OFFSET.OFS (R25). -/
  argOffset : Half
  /-- ARG_COUNT.CNT (R25). -/
  argCount : Half
  /-- ARG_VALUE.VAL (R25). -/
  argValue : Half
  /-- RES_COUNT[15:0] (R18, R26). -/
  resCount : Half
  /-- RES_OFFSET[15:0] (R18, R26). -/
  resOffset : Half
  /-- RES_ENCAP.CLASS (R18, R26). -/
  resEncap : BitVec 2
  /-- RES_PATCHED[15:0] (R18, R26). -/
  resPatched : Half
  /-- RES_SYNCERR[15:0] (R18, R26). -/
  resSyncErr : Half
  /-- RES_VALUE[15:0] (R18, R26). -/
  resValue : Half
  /-- CNT_DGRAM (R27). -/
  cntDgram : Word
  /-- CNT_PKT (R27). -/
  cntPkt : Word
  /-- CNT_PATCH (R27). -/
  cntPatch : Word
  /-- CNT_SYNCERR (R27). -/
  cntSyncErr : Word
  /-- PATCH_COUNT.N (R28). -/
  patchCount : Nat
  /-- PT[0..99] (R28). -/
  pt : Vector Pid 100
  /-- The stored bytes of BUF (R31). -/
  buf : Memory
  /-- The model's own: how often reset was asserted, the index of the buffer's draws (log 3). -/
  resets : Nat
  /-- The model's own: how many draws host reads have taken (log 4). -/
  draws : Nat
  /-- The model's own: what the host has still to perform (log 2). -/
  hostProgram : List HostOp
  /-- The model's own: the turns to come (log 1). -/
  schedule : List Turn
  /-- The model's own: what the host's reads returned, newest first (log 2). -/
  observed : List Reply
  deriving DecidableEq, Repr

/-- The state right after reset (R129), with nothing for the host to do. LATCHED_CMD and PT are unspecified there; their
zeros are the model's (log 5, log 6). -/
def State.reset : State where
  lock := false
  busy := false
  done := false
  err := 0
  latchedCmd := 0
  length := 0
  argOffset := 0
  argCount := 0
  argValue := 0
  resCount := 0
  resOffset := 0
  resEncap := 0
  resPatched := 0
  resSyncErr := 0
  resValue := 0
  cntDgram := 0
  cntPkt := 0
  cntPatch := 0
  cntSyncErr := 0
  patchCount := 0
  pt := Vector.replicate 100 0
  buf := []
  resets := 0
  draws := 0
  hostProgram := []
  schedule := []
  observed := []

end Sys2Proof.Machine
end

