-- ==== Sys2Proof/Machine/Flags.lean ====
section
/-! DEFINITION. The flags of the block (10_state.md R22, R23, R34): the six sticky ERR bits and the STATUS word. There are
no condition codes. -/

namespace Sys2Proof.Machine

/-- The six error causes (R23). -/
inductive ErrBit
  /-- A command word with OP >= 8 or RSV != 0 (R111). -/
  | illegal
  /-- SCAN_PATCH or PROCESS while CTRL.LOCK = 0 (R112). -/
  | unlocked
  /-- A command whose window does not fit the buffer (R113). -/
  | range
  /-- A rejected PATCH_PUSH (R114). -/
  | cfg
  /-- A host write dropped because STATUS.BUSY = 1 (R115). -/
  | hazard
  /-- A bad host access (R116). -/
  | bus
  deriving DecidableEq, Repr

/-- The cause code of an error, which is its bit number in ERR (R23). -/
def ErrBit.code : ErrBit → Nat
  | .illegal => 0
  | .unlocked => 1
  | .range => 2
  | .cfg => 3
  | .hazard => 4
  | .bus => 5

/-- ERR with the error's bit alone set (R23). -/
def ErrBit.mask (e : ErrBit) : BitVec 6 := 1#6 <<< e.code

/-- STATUS.ERRSUM: the OR of ERR[5:0] (R22). -/
def State.errSum (s : State) : Bool := s.err != 0

/-- The STATUS word (R22): BUSY, DONE and ERRSUM in bits 0, 1 and 2, the rest 0. -/
def State.statusWord (s : State) : Word :=
  (BitVec.ofBool s.errSum ++ BitVec.ofBool s.done ++ BitVec.ofBool s.busy).setWidth 32

/-- The CTRL word (R21): LOCK in bit 0, the rest 0. -/
def State.ctrlWord (s : State) : Word := (BitVec.ofBool s.lock).setWidth 32

/-- The ERR word (R23): the six bits, the rest 0. -/
def State.errWord (s : State) : Word := s.err.setWidth 32

/-- What a host write of `w` to ERR leaves in ERR[5:0]: each bit written 1 is cleared (R102). -/
def clearedErr (w : Word) (err : BitVec 6) : BitVec 6 := err &&& ~~~(w.setWidth 6)

end Sys2Proof.Machine
end

