-- ==== Sys2Proof/Machine/Operands.lean ====
section
/-! DEFINITION. The operands of commands (30_encoding.md R60), the window checks over them (60_exceptions.md R113), and the
register map of the host port (10_state.md R18). -/

namespace Sys2Proof.Machine

/-- L: the datagram length, zero-extended (R60). -/
def State.lengthOp (s : State) : Nat := s.length.toNat

/-- o or s: the buffer offset, zero-extended (R60). -/
def State.offsetOp (s : State) : Nat := s.argOffset.toNat

/-- n: the slice count, zero-extended (R60). -/
def State.countOp (s : State) : Nat := s.argCount.toNat

/-- v: the value operand reduced to its low 13 bits, `VAL & 0x1FFF` (R60). -/
def State.valueOp (s : State) : Pid := (s.argValue &&& Config.pidMask).setWidth 13

/-- The 4-byte window of a codec command fits the buffer (R78, R113). -/
def headerFits (o : Nat) : Bool := decide (o + 4 ≤ Config.bufSize)

/-- The datagram length is one the buffer can hold (R86, R113). -/
def lengthFits (len : Nat) : Bool := decide (len ≤ Config.bufSize)

/-- The n slices from offset s fit the buffer (R96, R113), in unbounded arithmetic. -/
def slicesFit (s n : Nat) : Bool := decide (s + Config.tsPktLen * n ≤ Config.bufSize)

/-- The host-visible registers (R18). -/
inductive Reg
  | id | params | ctrl | status | err | cmd
  | length | argOffset | argCount | argValue
  | resCount | resOffset | resEncap | resPatched | resSyncErr | resValue
  | cntDgram | cntPkt | cntPatch | cntSyncErr
  | patchCount | patchPush
  /-- PATCH_TABLE[i], i = 0..99. -/
  | patchTable (i : Fin 100)
  deriving DecidableEq, Repr

/-- The offset of a register, the map of R18. -/
def Reg.offset : Reg → BitVec 12
  | .id => 0x000
  | .params => 0x004
  | .ctrl => 0x008
  | .status => 0x00C
  | .err => 0x010
  | .cmd => 0x014
  | .length => 0x018
  | .argOffset => 0x01C
  | .argCount => 0x020
  | .argValue => 0x024
  | .resCount => 0x028
  | .resOffset => 0x02C
  | .resEncap => 0x030
  | .resPatched => 0x034
  | .resSyncErr => 0x038
  | .resValue => 0x03C
  | .cntDgram => 0x040
  | .cntPkt => 0x044
  | .cntPatch => 0x048
  | .cntSyncErr => 0x04C
  | .patchCount => 0x050
  | .patchPush => 0x054
  | .patchTable i => BitVec.ofNat 12 (0x100 + 4 * i.val)

/-- The registers below PATCH_TABLE, in the order of their offsets 0x000, 0x004, …, 0x054 (R18). -/
def lowRegs : List Reg :=
  [.id, .params, .ctrl, .status, .err, .cmd, .length, .argOffset, .argCount, .argValue]
    ++ [.resCount, .resOffset, .resEncap, .resPatched, .resSyncErr, .resValue]
    ++ [.cntDgram, .cntPkt, .cntPatch, .cntSyncErr, .patchCount, .patchPush]

/-- The register an offset names, if it names one: `none` for an offset that is not a multiple of 4 or that R18 does not
name (R35, R42). -/
def regAt (off : BitVec 12) : Option Reg :=
  if off.toNat % 4 ≠ 0 then none
  else if off.toNat < 0x100 then lowRegs[off.toNat / 4]?
  else if h : (off.toNat - 0x100) / 4 < 100 then some (.patchTable ⟨(off.toNat - 0x100) / 4, h⟩)
  else none

/-- The register a host access of this width at this offset reaches; `none` is a bus error (R42, R99, R100). -/
def regAccess (off : BitVec 12) (width : Nat) : Option Reg :=
  if width = 4 then regAt off else none

/-- A host buffer access of this width at this address reaches the buffer (R43). -/
def bufAccess (addr width : Nat) : Bool := decide (width = 1 ∧ addr < Config.bufSize)

/-- The registers whose host read is unspecified while STATUS.BUSY = 1: RES_* and CNT_* (R99, R134). -/
def Reg.volatile : Reg → Bool
  | .resCount | .resOffset | .resEncap | .resPatched | .resSyncErr | .resValue => true
  | .cntDgram | .cntPkt | .cntPatch | .cntSyncErr => true
  | .id | .params | .ctrl | .status | .err | .cmd => false
  | .length | .argOffset | .argCount | .argValue => false
  | .patchCount | .patchPush | .patchTable _ => false

end Sys2Proof.Machine
end

