-- ==== Sys2Proof/Machine/Ops.lean ====
section
/-! DEFINITION. The shared operations: reading and writing one buffer byte (20_memory.md R39), membership (R87), the
saturating counter addition (R88), setting an error bit, completing a command (R71), raising an error (R117), accepting a
command (R66), and what the reset input does (R128, R129). -/

namespace Sys2Proof.Machine

/-- The stored byte of an address, if something has written it since reset. -/
def Memory.get? (a : Nat) : Memory → Option Byte
  | [] => none
  | (b, v) :: rest => if a = b then some v else Memory.get? a rest

/-- Stores a byte, keeping the addresses strictly rising. -/
def Memory.set (a : Nat) (v : Byte) : Memory → Memory
  | [] => [(a, v)]
  | (b, w) :: rest =>
    if a < b then (a, v) :: (b, w) :: rest
    else if a = b then (a, v) :: rest
    else (b, w) :: Memory.set a v rest

/-- BUF[a]: the stored byte, or the draw of the last reset where nothing has been stored since (R31, R130). -/
def State.byteAt (s : State) (a : Nat) : Byte :=
  match Memory.get? a s.buf with
  | some v => v
  | none => Config.resetByte s.resets a

/-- BUF[a] <- v. -/
def State.setByte (s : State) (a : Nat) (v : Byte) : State := { s with buf := Memory.set a v s.buf }

/-- MemRead(a, 1) of the engine (R39), defined for the addresses 0..1399 only. -/
def memRead (a : Nat) (s : State) : Except Fault Byte :=
  if a < Config.bufSize then .ok (s.byteAt a) else .error (.bufferAddress a)

/-- MemWrite(a, 1, v) of the engine (R39), defined for the addresses 0..1399 only. -/
def memWrite (a : Nat) (v : Byte) (s : State) : Except Fault State :=
  if a < Config.bufSize then .ok (s.setByte a v) else .error (.bufferAddress a)

/-- The members of the Patch Set: PT[0..N-1] (R28). -/
def State.members (s : State) : List Pid := s.pt.toList.take s.patchCount

/-- `member(p)` (R87): some member of the Patch Set equals p. -/
def State.member (s : State) (p : Pid) : Bool := s.members.contains p

/-- `sat_add(c, n)` (R88): min(c + n, 2^32 - 1). -/
def satAdd (c : Word) (n : Nat) : Word := BitVec.ofNat 32 (min (c.toNat + n) (2 ^ 32 - 1))

/-- x[ERR].E <- 1 (R23, R117). -/
def setErr (e : ErrBit) (s : State) : State := { s with err := s.err ||| e.mask }

/-- `complete` (R71): BUSY <- 0, DONE <- 1. ERRSUM is computed from ERR (R22). -/
def complete (s : State) : State := { s with busy := false, done := true }

/-- `raise E` inside a command (R117): the error's bit, then `complete`, and no other effect. The block has no trap entry
and no return from one (R120); this is all an error of a command does. -/
def raiseErr (e : ErrBit) (s : State) : State := complete (setErr e s)

/-- Ends a command body: the state it reached, or the fault its buffer accesses met. -/
def finish (r : Except Fault State) : Host.Outcome State Fault Refusal :=
  match r with
  | .ok s => .next s
  | .error f => .fault f

/-- Acceptance of the command word w while STATUS.BUSY = 0 (R66). -/
def acceptCmd (w : Word) (s : State) : State := { s with latchedCmd := w, busy := true, done := false }

/-- What the reset input does (R128, R129): every piece of the block's state takes its reset value and the buffer a fresh
draw per byte (R130). The host's program, what it has read and the schedule are not the block's and stay (log 9). -/
def resetBlock (s : State) : State :=
  { State.reset with
    resets := s.resets + 1
    draws := s.draws
    hostProgram := s.hostProgram
    schedule := s.schedule
    observed := s.observed }

end Sys2Proof.Machine
end

