-- ==== Sys2Proof/Machine/Codec.lean ====
section
/-! DEFINITION. The TS Packet Header Codec (41_header_codec.md): pid_of, synced and write_pid over the buffer (R75, R76,
R77), and the commands READ_PID, WRITE_PID and IS_SYNCED (R78, R79, R80). -/

namespace Sys2Proof.Machine

/-- The PID in bytes 1 and 2 of a header: `((b1 & 0x1F) << 8) | b2` (R40, R75). -/
def pidField (b1 b2 : Byte) : Pid := ((b1 &&& 0x1F#8).setWidth 13 <<< 8) ||| b2.setWidth 13

/-- Byte 1 of a header whose byte 1 was b1, with the PID q written: `(b1 & 0xE0) | q[12:8]` (R77). -/
def pidHighByte (b1 : Byte) (q : Pid) : Byte := (b1 &&& 0xE0#8) ||| (q.extractLsb' 8 5).setWidth 8

/-- Byte 2 of a header with the PID q written: q[7:0] (R77). -/
def pidLowByte (q : Pid) : Byte := q.extractLsb' 0 8

/-- `pid_of(o)` (R75): reads bytes o + 1 and o + 2. -/
def pidOf (o : Nat) (s : State) : Except Fault Pid := do
  let b1 ← memRead (o + 1) s
  let b2 ← memRead (o + 2) s
  return pidField b1 b2

/-- `synced(o)` (R76): byte o is 0x47. -/
def synced (o : Nat) (s : State) : Except Fault Bool := do
  let b0 ← memRead o s
  return b0 == Config.syncByte

/-- `write_pid(o, p)` (R77): the low 13 bits of p into the PID bits of bytes o + 1 and o + 2. -/
def writePid (o p : Nat) (s : State) : Except Fault State := do
  let q : Pid := BitVec.ofNat 13 p
  let b1 ← memRead (o + 1) s
  let s1 ← memWrite (o + 1) (pidHighByte b1 q) s
  memWrite (o + 2) (pidLowByte q) s1

/-- READ_PID (R78). -/
def execReadPid (s : State) : Host.Outcome State Fault Refusal :=
  if headerFits s.offsetOp then
    finish do
      let p ← pidOf s.offsetOp s
      return complete { s with resValue := p.setWidth 16 }
  else .next (raiseErr .range s)

/-- WRITE_PID (R79). -/
def execWritePid (s : State) : Host.Outcome State Fault Refusal :=
  if headerFits s.offsetOp then
    finish do
      let s1 ← writePid s.offsetOp s.valueOp.toNat s
      return complete s1
  else .next (raiseErr .range s)

/-- IS_SYNCED (R80). -/
def execIsSynced (s : State) : Host.Outcome State Fault Refusal :=
  if headerFits s.offsetOp then
    finish do
      let b ← synced s.offsetOp s
      return complete { s with resValue := if b then 1 else 0 }
  else .next (raiseErr .range s)

end Sys2Proof.Machine
end

