-- ==== Sys2Proof/Machine/Control.lean ====
section
/-! DEFINITION. The command NOP (40_command_cycle.md R73). -/

namespace Sys2Proof.Machine

/-- NOP (R73): `complete`. -/
def execNop (s : State) : Host.Outcome State Fault Refusal := .next (complete s)

end Sys2Proof.Machine
end

