-- ==== Sys2Proof/Machine/Resolver.lean ====
section
/-! DEFINITION. The Encapsulation Offset Resolver (42_offset_resolver.md): resolve and encap_class (R81, R85), and the
command RESOLVE (R86). It looks at the length only. -/

namespace Sys2Proof.Machine

/-- packetCount of `resolve(L)`: L div 188 (R81). -/
def packetCount (len : Nat) : Nat := len / Config.tsPktLen

/-- prefixOffset of `resolve(L)`: L - packetCount * 188 (R81). -/
def prefixOffset (len : Nat) : Nat := len - packetCount len * Config.tsPktLen

/-- `encap_class(prefixOffset)` (R85): 0 for no prefix, 1 for the RTP-typical 12 bytes, 2 for any other. -/
def encapClass (p : Nat) : BitVec 2 := if p = 0 then 0 else if p = 12 then 1 else 2

/-- The three result registers a resolved length is written to (R86, R97). -/
def writeResolved (len : Nat) (s : State) : State :=
  { s with
    resCount := BitVec.ofNat 16 (packetCount len)
    resOffset := BitVec.ofNat 16 (prefixOffset len)
    resEncap := encapClass (prefixOffset len) }

/-- RESOLVE (R86). -/
def execResolve (s : State) : Host.Outcome State Fault Refusal :=
  if lengthFits s.lengthOp then .next (complete (writeResolved s.lengthOp s))
  else .next (raiseErr .range s)

end Sys2Proof.Machine
end

