-- ==== Sys2Proof/Machine/Scanner.lean ====
section
/-! DEFINITION. The TS Packet Scanner/Patcher (43_scanner_patcher.md): scan (R89) and the commands MEMBER, SCAN_PATCH and
PROCESS (R95, R96, R97). -/

namespace Sys2Proof.Machine

/-- What a scan leaves: the state with the patched buffer, and the two counts it returns (R89). -/
structure Scanned where
  state : State
  patched : Nat
  syncErr : Nat
  deriving DecidableEq, Repr

/-- One slice of R89's loop at offset a: a slice that fails the sync test counts as a sync error and stays; a synced slice
whose PID is a member gets the NULL PID and counts as patched; any other slice stays. -/
def scanSlice (a : Nat) (r : Scanned) : Except Fault Scanned := do
  if ← synced a r.state then
    let p ← pidOf a r.state
    if r.state.member p then
      let s ← writePid a Config.nullPid r.state
      return { r with state := s, patched := r.patched + 1 }
    else return r
  else return { r with syncErr := r.syncErr + 1 }

/-- R89's loop over n slices from offset a, in increasing order, at the fixed stride of 188 bytes (R44, R90). -/
def scanFrom (a : Nat) : Nat → Scanned → Except Fault Scanned
  | 0, r => .ok r
  | n + 1, r => do
    let r1 ← scanSlice a r
    scanFrom (a + Config.tsPktLen) n r1

/-- `scan(s, n)` (R89), both counts from 0. -/
def scan (start n : Nat) (s : State) : Except Fault Scanned :=
  scanFrom start n { state := s, patched := 0, syncErr := 0 }

/-- The result registers and counters a scan of n slices is written to (R96, R97). -/
def writeScanned (n : Nat) (r : Scanned) : State :=
  { r.state with
    resPatched := BitVec.ofNat 16 r.patched
    resSyncErr := BitVec.ofNat 16 r.syncErr
    cntPkt := satAdd r.state.cntPkt n
    cntPatch := satAdd r.state.cntPatch r.patched
    cntSyncErr := satAdd r.state.cntSyncErr r.syncErr }

/-- MEMBER (R95). -/
def execMember (s : State) : Host.Outcome State Fault Refusal :=
  .next (complete { s with resValue := if s.member s.valueOp then 1 else 0 })

/-- SCAN_PATCH (R96): the lock is checked before the window. -/
def execScanPatch (s : State) : Host.Outcome State Fault Refusal :=
  if !s.lock then .next (raiseErr .unlocked s)
  else if slicesFit s.offsetOp s.countOp then
    finish do
      let r ← scan s.offsetOp s.countOp s
      return complete (writeScanned s.countOp r)
  else .next (raiseErr .range s)

/-- PROCESS (R97): the lock is checked before the length, the datagram is resolved, then its slices are scanned. -/
def execProcess (s : State) : Host.Outcome State Fault Refusal :=
  if !s.lock then .next (raiseErr .unlocked s)
  else if lengthFits s.lengthOp then
    finish do
      let n := packetCount s.lengthOp
      let r ← scan (prefixOffset s.lengthOp) n s
      let s1 := writeResolved s.lengthOp (writeScanned n r)
      return complete { s1 with cntDgram := satAdd s.cntDgram 1 }
  else .next (raiseErr .range s)

end Sys2Proof.Machine
end

