-- ==== Sys2Proof/Machine/Dispatch.lean ====
section
/-! DEFINITION. The dispatch of R70: one arm per command. -/

namespace Sys2Proof.Machine

def exec (i : Instr) (s : State) : Host.Outcome State Fault Refusal :=
  match i with
  | .nop => Sys2Proof.Machine.execNop s
  | .readPid => Sys2Proof.Machine.execReadPid s
  | .writePid => Sys2Proof.Machine.execWritePid s
  | .isSynced => Sys2Proof.Machine.execIsSynced s
  | .resolve => Sys2Proof.Machine.execResolve s
  | .member => Sys2Proof.Machine.execMember s
  | .scanPatch => Sys2Proof.Machine.execScanPatch s
  | .process => Sys2Proof.Machine.execProcess s

end Sys2Proof.Machine
end

