-- ==== Sys2Proof/Machine/HostPort.lean ====
section
/-! DEFINITION. The host port (44_host_port.md): what each register and buffer transaction does (R99 to R105). -/

namespace Sys2Proof.Machine

/-- The value of a register as an exact host read returns it, reserved fields 0 (R18, R99). CMD and PATCH_PUSH read 0;
PATCH_TABLE[i] reads PT[i] below the member count and 0 past it (R30). -/
def State.readReg (s : State) : Reg → Word
  | .id => Config.idWord
  | .params => Config.paramsWord
  | .ctrl => s.ctrlWord
  | .status => s.statusWord
  | .err => s.errWord
  | .cmd => 0
  | .length => s.length.setWidth 32
  | .argOffset => s.argOffset.setWidth 32
  | .argCount => s.argCount.setWidth 32
  | .argValue => s.argValue.setWidth 32
  | .resCount => s.resCount.setWidth 32
  | .resOffset => s.resOffset.setWidth 32
  | .resEncap => s.resEncap.setWidth 32
  | .resPatched => s.resPatched.setWidth 32
  | .resSyncErr => s.resSyncErr.setWidth 32
  | .resValue => s.resValue.setWidth 32
  | .cntDgram => s.cntDgram
  | .cntPkt => s.cntPkt
  | .cntPatch => s.cntPatch
  | .cntSyncErr => s.cntSyncErr
  | .patchCount => (BitVec.ofNat 8 s.patchCount).setWidth 32
  | .patchPush => 0
  | .patchTable i => if i.val < s.patchCount then s.pt[i].setWidth 32 else 0

/-- REG_RD (R99): the value returned and the state after. A read of RES_* or CNT_* while BUSY = 1 returns a draw. -/
def regRd (off : BitVec 12) (width : Nat) (s : State) : Word × State :=
  match regAccess off width with
  | none => (0, setErr .bus s)
  | some r =>
    if s.busy && r.volatile then (Config.drawWord s.draws, { s with draws := s.draws + 1 })
    else (s.readReg r, s)

/-- Performs a host write that BUSY = 1 forbids: dropped with ERR.HAZARD then (R115, R133), done otherwise. -/
def unlessBusy (write : State → State) (s : State) : State :=
  if s.busy then setErr .hazard s else write s

/-- A write of w to CTRL while BUSY = 0 (R101): a 1 in bit 0 sets LOCK, a 0 leaves it. -/
def writeCtrl (w : Word) (s : State) : State := { s with lock := s.lock || w.getLsbD 0 }

/-- A write of w to ERR (R102). -/
def writeErr (w : Word) (s : State) : State := { s with err := clearedErr w s.err }

/-- A write of w to PATCH_PUSH while BUSY = 0 (R103): the PID is appended, or rejected with ERR.CFG. The
capacity test is N >= PATCH_MAX, which is R103's N = PATCH_MAX in every state with N at most 100 (log 13). -/
def pushPid (w : Word) (s : State) : State :=
  if s.lock ∨ s.patchCount ≥ Config.patchMax ∨ w.toNat > 8191 then setErr .cfg s
  else { s with pt := s.pt.setIfInBounds s.patchCount (w.setWidth 13), patchCount := s.patchCount + 1 }

/-- A legal register write (R100): writes to read-only registers do nothing. -/
def writeReg (r : Reg) (w : Word) (s : State) : State :=
  match r with
  | .cmd => unlessBusy (acceptCmd w) s
  | .err => writeErr w s
  | .ctrl => unlessBusy (writeCtrl w) s
  | .patchPush => unlessBusy (pushPid w) s
  | .length => unlessBusy (fun s => { s with length := w.setWidth 16 }) s
  | .argOffset => unlessBusy (fun s => { s with argOffset := w.setWidth 16 }) s
  | .argCount => unlessBusy (fun s => { s with argCount := w.setWidth 16 }) s
  | .argValue => unlessBusy (fun s => { s with argValue := w.setWidth 16 }) s
  | .id | .params | .status => s
  | .resCount | .resOffset | .resEncap | .resPatched | .resSyncErr | .resValue => s
  | .cntDgram | .cntPkt | .cntPatch | .cntSyncErr => s
  | .patchCount | .patchTable _ => s

/-- REG_WR (R100). -/
def regWr (off : BitVec 12) (width : Nat) (w : Word) (s : State) : State :=
  match regAccess off width with
  | none => setErr .bus s
  | some r => writeReg r w s

/-- BUF_RD (R104): the value returned and the state after. A read while BUSY = 1 returns a draw. -/
def bufRd (addr width : Nat) (s : State) : Byte × State :=
  if bufAccess addr width then
    if s.busy then (Config.drawByte s.draws, { s with draws := s.draws + 1 })
    else (s.byteAt addr, s)
  else (0, setErr .bus s)

/-- BUF_WR (R105). -/
def bufWr (addr width : Nat) (b : Byte) (s : State) : State :=
  if bufAccess addr width then unlessBusy (fun s => s.setByte addr b) s
  else setErr .bus s

/-- One transaction (R63), whole and at once (R45): what it returns to the host, if it is a read, and the state after. -/
def transact (t : Transaction) (s : State) : Option Reply × State :=
  match t with
  | .regRd off width => (some (.word (regRd off width s).1), (regRd off width s).2)
  | .regWr off width w => (none, regWr off width w s)
  | .bufRd addr width => (some (.byte (bufRd addr width s).1), (bufRd addr width s).2)
  | .bufWr addr width b => (none, bufWr addr width b s)

/-- What the host has seen once a transaction returned r to it. -/
def record (r : Option Reply) (seen : List Reply) : List Reply :=
  match r with
  | some v => v :: seen
  | none => seen

/-- The host performs the transaction t and has `rest` still to do. -/
def perform (t : Transaction) (rest : List HostOp) (s : State) : State :=
  { (transact t s).2 with hostProgram := rest, observed := record (transact t s).1 s.observed }

/-- One operation of the host's program: a transaction, or one round of `poll`, which reads STATUS and stays in the program
until the value read has bit 0 clear (R65). With nothing to do the host's turn passes (log 11). -/
def hostStep (s : State) : State :=
  match s.hostProgram with
  | [] => s
  | .transaction t :: rest => perform t rest s
  | .poll :: rest =>
    perform (.regRd Reg.status.offset 4)
      (if (regRd Reg.status.offset 4 s).1.getLsbD 0 then .poll :: rest else rest) s

end Sys2Proof.Machine
end

