-- ==== Sys2Proof/Machine/Engine.lean ====
section
/-! DEFINITION. The engine's step (40_command_cycle.md R67, R70) and whose turn it is (20_memory.md R51). -/

namespace Sys2Proof.Machine

/-- The engine's one kind of step (R67), enabled exactly when BUSY = 1: it decodes LATCHED_CMD (R70) and executes it, or
raises ILLEGAL (R111). With BUSY = 0 the engine has no step and its turn passes (log 11). -/
def engineStep (s : State) : Host.Outcome State Fault Refusal :=
  if s.busy then
    match decode s.latchedCmd with
    | .ok i => exec i s
    | .error _ => .next (raiseErr .illegal s)
  else .next s

/-- Who moves next: the head of the schedule; where the schedule has ended, the engine if a command is in flight, so that
every accepted command completes (R69), and else the host (log 1). -/
def State.turn (s : State) : Turn :=
  match s.schedule with
  | t :: _ => t
  | [] => if s.busy then .engine else .host

/-- The state once the head of the schedule is taken. -/
def State.popTurn (s : State) : State := { s with schedule := s.schedule.tail }

/-- The next command word and the turn that runs it, in place: command w is accepted (R66) and the engine moves next. -/
def State.withCommand (w : Word) (s : State) : State :=
  { acceptCmd w s with schedule := .engine :: s.schedule }

/-- One move of the agent whose turn it is. -/
def move (s : State) : Host.Outcome State Fault Refusal :=
  match s.turn with
  | .engine => engineStep s.popTurn
  | .host => .next (hostStep s.popTurn)
  | .reset => .next (resetBlock s.popTurn)

end Sys2Proof.Machine
end

