-- ==== Sys2Proof/Machine/Step.lean ====
section
/-! DEFINITION. One step of the machine: one host transaction, one engine step or one reset (00_scope.md R12, 20_memory.md
R51), and how the host places a command where the next step runs it (log 8). -/

namespace Sys2Proof.Machine

/-- One step: the agent whose turn it is moves. -/
def step (s : State) : Host.Outcome State Fault Refusal := move s

/-- s with the command word accepted and the engine's turn next. Nothing is fetched (R56): the engine runs the word that a
CMD write latched, so this stands for that write (log 8). -/
def State.withFetchWord (s : State) (nbits w : Nat) : State := s.withCommand (tableWord nbits w)

end Sys2Proof.Machine
end

