-- ==== Sys2Proof/Machine/HostProgram.lean ====
section
/-! DEFINITION. Host programs (30_encoding.md R64, R65): the assembler lines with their expansions, and the two programs
that are the host's duty, startup configuration (R106) and the relay cycle (R107). -/

namespace Sys2Proof.Machine

/-- One line of a host program (R64) or a pseudo-instruction (R65). Comments and `expect` lines are no transactions. -/
inductive HostLine
  /-- `wr NAME, value`. -/
  | wr (r : Reg) (value : Word)
  /-- `wr offset, value`, to a numeric offset. -/
  | wrAt (off : BitVec 12) (value : Word)
  /-- `rd NAME`. -/
  | rd (r : Reg)
  /-- `wb addr, byte`. -/
  | wb (addr : Nat) (b : Byte)
  /-- `rb addr`. -/
  | rb (addr : Nat)
  /-- `cmd MNEMONIC`. -/
  | cmd (i : Instr)
  /-- `cmd 0xNNNNNNNN`. -/
  | cmdWord (w : Word)
  /-- `poll`. -/
  | poll
  /-- `run MNEMONIC`. -/
  | run (i : Instr)
  /-- `wblk addr, b0 b1 ... bm`. -/
  | wblk (addr : Nat) (bytes : List Byte)
  /-- `fill addr, n, b`. -/
  | fill (addr n : Nat) (b : Byte)
  /-- `tshdr addr, pid`. -/
  | tshdr (addr pid : Nat)
  /-- `push p0, p1, ..., pm`. -/
  | push (pids : List Word)
  /-- `lock`. -/
  | lock
  /-- `clrerr`. -/
  | clrerr
  deriving DecidableEq, Repr

/-- A whole-word register write to a named register. -/
def regWrite (r : Reg) (v : Word) : HostOp := .transaction (.regWr r.offset 4 v)

/-- A whole-word register read of a named register. -/
def regRead (r : Reg) : HostOp := .transaction (.regRd r.offset 4)

/-- A buffer write of one byte. -/
def bufWrite (addr : Nat) (b : Byte) : HostOp := .transaction (.bufWr addr 1 b)

/-- A buffer read of one byte. -/
def bufRead (addr : Nat) : HostOp := .transaction (.bufRd addr 1)

/-- Buffer writes of a block of bytes from an address up. -/
def writeBlock : Nat → List Byte → List HostOp
  | _, [] => []
  | addr, b :: rest => bufWrite addr b :: writeBlock (addr + 1) rest

/-- What a line expands to (R64, R65). -/
def HostLine.expand : HostLine → List HostOp
  | .wr r v => [regWrite r v]
  | .wrAt off v => [.transaction (.regWr off 4 v)]
  | .rd r => [regRead r]
  | .wb addr b => [bufWrite addr b]
  | .rb addr => [bufRead addr]
  | .cmd i => [regWrite .cmd (encode i)]
  | .cmdWord w => [regWrite .cmd w]
  | .poll => [.poll]
  | .run i => [regWrite .cmd (encode i), .poll]
  | .wblk addr bytes => writeBlock addr bytes
  | .fill addr n b => writeBlock addr (List.replicate n b)
  | .tshdr addr pid =>
    writeBlock addr [0x47, BitVec.ofNat 8 (pid >>> 8 &&& 0x1F), BitVec.ofNat 8 (pid &&& 0xFF), 0x10]
  | .push pids => pids.map (regWrite .patchPush)
  | .lock => [regWrite .ctrl 1]
  | .clrerr => [regWrite .err 0x3F]

/-- The operations of a whole program, line after line. -/
def assemble (lines : List HostLine) : List HostOp := lines.flatMap HostLine.expand

/-- Startup configuration (R106, R132 steps 1 and 2): push the PIDs in list order, then lock. -/
def startup (pids : List Word) : List HostLine := [.push pids, .lock]

/-- The relay cycle for one received datagram (R107, R132 steps 3 to 5): load it, process it, read ERR, read it back. -/
def relayCycle (datagram : List Byte) : List HostLine :=
  [.wblk 0 datagram, .wr .length (BitVec.ofNat 32 datagram.length), .run .process, .rd .err]
    ++ (List.range datagram.length).map .rb

end Sys2Proof.Machine
end

