-- ==== Sys2Proof/Machine/HostDuty.lean ====
section
/-! DEFINITION. What the host's duties are about (70_reset_and_hazards.md R135, R139): the buffer bytes that the next step
reads, and whether the host has polled since its last CMD write. No step of the machine depends on these definitions; they
are what the premises of R139 are stated with (log 18). -/

namespace Sys2Proof.Machine

/-- Some host write or command has stored BUF[a] since the last reset (R130). -/
def State.written (s : State) (a : Nat) : Bool := (Memory.get? a s.buf).isSome

/-- The bytes a scan of n slices from `start` reads: the first three of each slice (R48). -/
def sliceReads (start n : Nat) : List Nat :=
  (List.range n).flatMap fun k =>
    [start + Config.tsPktLen * k, start + Config.tsPktLen * k + 1, start + Config.tsPktLen * k + 2]

/-- The buffer bytes a command reads (R48). A command that raises an error reads none: its checks come first (R113). -/
def commandReads (i : Instr) (s : State) : List Nat :=
  match i with
  | .nop | .resolve | .member => []
  | .readPid | .isSynced => if headerFits s.offsetOp then [s.offsetOp, s.offsetOp + 1, s.offsetOp + 2] else []
  | .writePid => if headerFits s.offsetOp then [s.offsetOp + 1] else []
  | .scanPatch => if s.lock && slicesFit s.offsetOp s.countOp then sliceReads s.offsetOp s.countOp else []
  | .process =>
    if s.lock && lengthFits s.lengthOp then sliceReads (prefixOffset s.lengthOp) (packetCount s.lengthOp) else []

/-- The transaction the next step performs, if the host moves and has one to perform; a round of `poll` is a read of
STATUS (R65). -/
def State.nextTransaction (s : State) : Option Transaction :=
  match s.turn, s.hostProgram with
  | .host, .transaction t :: _ => some t
  | .host, .poll :: _ => some (.regRd Reg.status.offset 4)
  | .host, [] => none
  | .engine, _ => none
  | .reset, _ => none

/-- The buffer bytes a transaction reads: the byte of a legal BUF_RD while BUSY = 0 (R104). -/
def transactionReads (t : Transaction) (s : State) : List Nat :=
  match t with
  | .bufRd a width => if bufAccess a width && !s.busy then [a] else []
  | .regRd _ _ | .regWr _ _ _ | .bufWr _ _ _ => []

/-- The buffer bytes the command in flight reads if the engine moves next. -/
def State.engineReads (s : State) : List Nat :=
  match s.turn, s.busy, decode s.latchedCmd with
  | .engine, true, .ok i => commandReads i s
  | _, _, _ => []

/-- The buffer bytes the next step reads, whoever moves. -/
def State.nextReads (s : State) : List Nat :=
  match s.nextTransaction with
  | some t => transactionReads t s
  | none => s.engineReads

/-- What R135 keeps for after the poll: writing the next command, changing an operand or a buffer byte, and reading a buffer
byte, a result or a counter. An access that touches nothing (R116) is none of these. -/
def needsPoll (t : Transaction) : Bool :=
  match t with
  | .regRd off width => (regAccess off width).any Reg.volatile
  | .regWr off width _ =>
    (regAccess off width).any fun r => [Reg.cmd, .length, .argOffset, .argCount, .argValue].contains r
  | .bufRd a width => bufAccess a width
  | .bufWr a width _ => bufAccess a width

/-- Whether the host owes a poll once the transaction t is performed in state s, given whether it owed one before: it owes one
from a CMD write until it reads STATUS with BUSY = 0 (R135). -/
def owesAfter (t : Transaction) (s : State) (owes : Bool) : Bool :=
  match t with
  | .regWr off width _ => owes || regAccess off width == some .cmd
  | .regRd off width => owes && !(regAccess off width == some .status && !s.busy)
  | .bufRd _ _ | .bufWr _ _ _ => owes

/-- For k steps from s the host performs nothing that needs the poll while it owes one. -/
def pollsFor : Nat → Bool → State → Bool
  | 0, _, _ => true
  | k + 1, owes, s =>
    !(owes && s.nextTransaction.any needsPoll) &&
      match step s with
      | .next t => pollsFor k (s.nextTransaction.elim owes fun x => owesAfter x s owes) t
      | .fault _ => true
      | .refused _ => true

end Sys2Proof.Machine
end

