-- ==== Sys2Proof/Safety.lean ====
section
/-! DEFINITION. What claims about runs are stated with: the invariant of the machine, the clean launch state (R139), the end
of a run (R138), a host that behaved well and polled (R139), and what a run's end is observed by (R138). -/

namespace Sys2Proof.Machine

/-- The invariant: the stored bytes are in canonical form; at most 100 members (R28); BUSY and DONE are never both 1 (R66,
R71); the result registers hold only what a command can write (R26); no slice is counted patched or as a sync error that is
not counted scanned; and nothing is counted in the configuration phase (R29, R112). -/
def State.Inv (s : State) : Prop :=
  Memory.wf s.buf ∧
  s.patchCount ≤ 100 ∧
  (s.busy = true → s.done = false) ∧
  s.resCount.toNat ≤ 7 ∧ s.resOffset.toNat ≤ 187 ∧ s.resEncap.toNat ≤ 2 ∧
  s.resPatched.toNat + s.resSyncErr.toNat ≤ 7 ∧ s.resValue.toNat ≤ 8191 ∧
  s.cntPatch.toNat ≤ s.cntPkt.toNat ∧ s.cntSyncErr.toNat ≤ s.cntPkt.toNat ∧
  (s.lock = false → s.cntDgram = 0 ∧ s.cntPkt = 0 ∧ s.cntPatch = 0 ∧ s.cntSyncErr = 0)

/-- The launch state of a host program under a schedule (R139): right after reset, with the program to perform. -/
def launch (program : List HostOp) (turns : List Turn) : State :=
  { State.reset with hostProgram := program, schedule := turns }

/-- Every buffer byte that a step of the run from s reads, for the host or inside a command, was written first (R139). -/
def State.writesFirst (s : State) : Prop :=
  ∀ (k : Nat) (t : State), Sys2Proof.core.run k s = .next t → ∀ a ∈ t.nextReads, t.written a = true

/-- The clean launch state (R139): the launch of a program that writes first every buffer byte it reads. -/
def cleanLaunch (program : List HostOp) (turns : List Turn) (s : State) : Prop :=
  s = launch program turns ∧ s.writesFirst

/-- The host polls as R135 says in every run from s, where it owes no poll. -/
def State.polls (s : State) : Prop := ∀ k : Nat, pollsFor k false s = true

/-- A run of the host's program has ended (R138): its last transaction is performed and BUSY = 0. -/
def State.runEnded (s : State) : Prop := s.hostProgram = [] ∧ s.busy = false

/-- The host was well behaved, as far as the block records it (R139): HAZARD, BUS and CFG are 0 at the end. -/
def State.hostBehaved (s : State) : Prop :=
  s.err &&& (ErrBit.hazard.mask ||| ErrBit.bus.mask ||| ErrBit.cfg.mask) = 0

/-- The whole premise of a claim that the host was well behaved in the run of k steps from s that ended in t (R139): the run
has ended, its end records no dropped write and no rejected access, and the host polled. -/
def wellBehavedRun (s : State) (k : Nat) (t : State) : Prop :=
  Sys2Proof.core.run k s = .next t ∧ t.runEnded ∧ t.hostBehaved ∧ s.polls

/-- Two states that the end of a run does not tell apart (R138): every register and every buffer byte agree. -/
def State.sameObserved (s t : State) : Prop :=
  (∀ r : Reg, s.readReg r = t.readReg r) ∧ ∀ a, a < 1400 → s.byteAt a = t.byteAt a

end Sys2Proof.Machine
end

