-- ==== Sys2Proof/WellFormed.lean ====
section
/-! DEFINITION. What the spec calls legal: a command (R59), a command word (R61), and a host transaction (R42, R43, R63).
Nothing illegal is outside the machine: an illegal word is accepted and raises ILLEGAL, an illegal access sets ERR.BUS. -/

namespace Sys2Proof

/-- A command has no operand (R60), so every one is well-formed. -/
def Instr.wellFormed : Instr → Bool
  | .nop | .readPid | .writePid | .isSynced | .resolve | .member | .scanPatch | .process => true

/-- A command word is legal when RSV is 0 and OP is below 8 (R61). -/
def legalCommandWord (w : Word) : Bool := decide (w.toNat / 16 = 0 ∧ w.toNat % 16 < 8)

/-- An offset R18 names: 0x000 to 0x054 and 0x100 to 0x28C, in steps of 4. -/
def mappedOffset (off : BitVec 12) : Bool :=
  decide (off.toNat % 4 = 0 ∧ (off.toNat ≤ 0x054 ∨ 0x100 ≤ off.toNat ∧ off.toNat ≤ 0x28C))

/-- A host transaction is legal when it is a 4-byte access at a mapped aligned offset (R42) or a 1-byte access below 1400
(R43). -/
def Machine.Transaction.wellFormed : Machine.Transaction → Bool
  | .regRd off width => decide (width = 4) && mappedOffset off
  | .regWr off width _ => decide (width = 4) && mappedOffset off
  | .bufRd addr width => decide (width = 1 ∧ addr < 1400)
  | .bufWr addr width _ => decide (width = 1 ∧ addr < 1400)

end Sys2Proof
end

