-- ==== Sys2Proof/Certificates/Slice0/Obligations.lean ====
section
/-! DEFINITION. The statements for the provers. The terms they are made of are written here from the spec, in plain
arithmetic on the bytes and registers, and not with the machine's own functions, wherever that is possible. -/

open Sys2Proof Sys2Proof.Machine

namespace Sys2Proof.Spec

/-- The 13-bit number in the PID bits of the header at offset o: bits [4:0] of byte o + 1 above byte o + 2 (R40, R75). -/
def pidAt (s : State) (o : Nat) : Nat := (s.byteAt (o + 1)).toNat % 32 * 256 + (s.byteAt (o + 2)).toNat

/-- Some i below PATCH_COUNT.N has PT[i] = p (R87). -/
def isMember (s : State) (p : Nat) : Bool := decide (∃ i : Fin 100, i.val < s.patchCount ∧ (s.pt[i.val]).toNat = p)

/-- Slice at offset a starts with the sync byte (R76). -/
def syncedAt (s : State) (a : Nat) : Bool := decide (s.byteAt a = 0x47)

/-- Slice at offset a is synced and its PID is a member: what R98 calls patched, told from the state before the scan. -/
def patchedAt (s : State) (a : Nat) : Bool := syncedAt s a && isMember s (pidAt s a)

/-- How many of the slices 0 .. n-1 from `start`, 188 bytes apart, have the property. -/
def countSlices (f : Nat → Bool) (start n : Nat) : Nat := (List.range n).countP (fun k => f (start + 188 * k))

/-- The byte a scan of n slices from `start` leaves at address a: in a patched slice byte 1 keeps bits [7:5] and gets 0x1F
below, byte 2 becomes 0xFF, and every other byte stays (R89, R92). -/
def scannedByte (s : State) (start n a : Nat) : Byte :=
  if (List.range n).any (fun k => patchedAt s (start + 188 * k) && decide (a = start + 188 * k + 1)) then
    (s.byteAt a &&& 0xE0) ||| 0x1F
  else if (List.range n).any (fun k => patchedAt s (start + 188 * k) && decide (a = start + 188 * k + 2)) then 0xFF
  else s.byteAt a

/-- A command that raised an error: the ERR bits of the mask are set, BUSY is 0, DONE is 1, all else is as it was (R117). -/
def raised (mask : BitVec 6) (s : State) : State := { s with err := s.err ||| mask, busy := false, done := true }

/-- A command that completed (R71). -/
def completed (s : State) : State := { s with busy := false, done := true }

/-- min(c + n, 2^32 - 1) as a 32-bit counter (R88). -/
def saturating (c : Word) (n : Nat) : Word := BitVec.ofNat 32 (min (c.toNat + n) 4294967295)

/-- 0 for no prefix, 1 for 12 bytes, 2 for any other (R85). -/
def prefixClass (p : Nat) : BitVec 2 := if p = 0 then 0 else if p = 12 then 1 else 2

/-- An offset that R18 names. -/
def mapped (off : BitVec 12) : Prop :=
  off.toNat % 4 = 0 ∧ (off.toNat ≤ 0x054 ∨ 0x100 ≤ off.toNat ∧ off.toNat ≤ 0x28C)

/-- The window of the command does not fit the buffer: the table of R113. -/
def windowTooLarge (s : State) : Instr → Prop
  | .nop | .member => False
  | .readPid | .writePid | .isSynced => s.argOffset.toNat + 4 > 1400
  | .resolve | .process => s.length.toNat > 1400
  | .scanPatch => s.argOffset.toNat + 188 * s.argCount.toNat > 1400

/-- The commands that need the lock (R112). -/
def needsLock : Instr → Bool
  | .scanPatch | .process => true
  | .nop | .readPid | .writePid | .isSynced | .resolve | .member => false

/-- Changes the next state of an outcome and leaves a stop alone. -/
def mapNext (f : State → State) : Host.Outcome State Fault Refusal → Host.Outcome State Fault Refusal
  | .next s => .next (f s)
  | .fault e => .fault e
  | .refused r => .refused r

/-- The datagram's slices: what SCAN_PATCH of n slices from `start` leaves in state t, buffer aside (R96). -/
def scanRegisters (s : State) (start n : Nat) (buf : Memory) : State :=
  { s with
    buf := buf
    resPatched := BitVec.ofNat 16 (countSlices (patchedAt s) start n)
    resSyncErr := BitVec.ofNat 16 (countSlices (fun a => !syncedAt s a) start n)
    cntPkt := saturating s.cntPkt n
    cntPatch := saturating s.cntPatch (countSlices (patchedAt s) start n)
    cntSyncErr := saturating s.cntSyncErr (countSlices (fun a => !syncedAt s a) start n) }

end Sys2Proof.Spec

open Sys2Proof.Spec

/-! ## Encoding and the command cycle -/

/-- Sample words of every family decode to the command R59's table gives them, and a word with OP = 8 or a reserved bit set
to none. -/
def Obligations.SampleWordsDecodeAsTheTableSays : Prop :=
  decode 0x00000000 = .ok .nop ∧ decode 0x00000001 = .ok .readPid ∧ decode 0x00000004 = .ok .resolve ∧
  decode 0x00000006 = .ok .scanPatch ∧ decode 0x00000007 = .ok .process ∧
  decode 0x00000008 = .error .reservedOpcode ∧ decode 0x00000010 = .error .reservedBits

/-- Decode and encode agree, both ways, over every 32-bit word and every well-formed command (R59, R62): a word decodes to a
command exactly when it is that command's word. -/
def Obligations.DecodeAndEncodeAgree : Prop :=
  ∀ (w : Word) (i : Instr), i.wellFormed = true → (decode w = .ok i ↔ w = encode i)

/-- R61, R111: a word in flight with OP of 8 or more or RSV other than 0 completes at the engine step with ERR.ILLEGAL and
STATUS.DONE set (and BUSY back to 0), and nothing else changes; every other word is a command. -/
def Obligations.IllegalWordRaisesIllegalAndNothingElse : Prop :=
  ∀ s : State, s.busy = true →
    ((s.latchedCmd.toNat % 16 ≥ 8 ∨ s.latchedCmd.toNat / 16 ≠ 0) → engineStep s = .next (raised 0b000001 s)) ∧
    (s.latchedCmd.toNat % 16 < 8 → s.latchedCmd.toNat / 16 = 0 → ∃ i, decode s.latchedCmd = .ok i ∧ engineStep s = exec i s)

/-- R67, R68, R70: when it is the engine's turn, BUSY is 1 and LATCHED_CMD decodes to i, the step is exec of i at the state
with that turn taken off the schedule. That it is the engine's turn where the schedule has ended with a command in flight is
the model's choice (log 1), which no rule makes. -/
def Obligations.StepExecutesTheLatchedCommand : Prop :=
  ∀ (s : State) (i : Instr), s.busy = true → decode s.latchedCmd = .ok i →
    (s.schedule = [] ∨ s.schedule.head? = some .engine) →
    step s = exec i { s with schedule := s.schedule.tail }

/-- The placing of a command (log 8, the model's form of a CMD write followed by the engine's turn): the very next step
executes the decoded command, on the state in which its word is accepted as R66 says and nothing else is changed. -/
def Obligations.PlacedCommandRunsNext : Prop :=
  ∀ (s : State) (nbits w : Nat) (i : Instr), decodeTableWord nbits w = some i →
    step (s.withFetchWord nbits w) =
      exec i { s with latchedCmd := BitVec.ofNat 32 (w % 2 ^ nbits), busy := true, done := false }

/-- R66: a legal CMD write latches the word, sets BUSY and clears DONE; while BUSY = 1 it is dropped and sets HAZARD. -/
def Obligations.CmdWriteIsAcceptedOrDropped : Prop :=
  ∀ (w : Word) (s : State),
    (s.busy = false → regWr 0x014 4 w s = { s with latchedCmd := w, busy := true, done := false }) ∧
    (s.busy = true → regWr 0x014 4 w s = { s with err := s.err ||| 0b010000 })

/-- R69, under the model's form of SCHEDULE (log 1): from any state with a command in flight, at most one step more than
there are turns scheduled brings BUSY to 0, and to DONE = 1 unless a reset was scheduled. -/
def Obligations.AcceptedCommandCompletes : Prop :=
  ∀ s : State, s.busy = true →
    ∃ k t, k ≤ s.schedule.length + 1 ∧ core.run k s = .next t ∧ t.busy = false ∧
      (Turn.reset ∉ s.schedule → t.done = true)

/-- R73: NOP completes and changes nothing else, whatever the state. -/
def Obligations.NopOnlyCompletes : Prop :=
  decode 0x00000000 = .ok .nop ∧ ∀ s : State, exec .nop s = .next (completed s)

/-! ## The codec commands -/

/-- R78: READ_PID writes the 13-bit PID of the header at ARG_OFFSET to RES_VALUE and completes, the rest unchanged; an offset
above 1396 raises RANGE and has no other effect. -/
def Obligations.ReadPidReturnsTheHeaderPid : Prop :=
  decode 0x00000001 = .ok .readPid ∧
  ∀ s : State,
    (s.argOffset.toNat + 4 ≤ 1400 →
      exec .readPid s = .next (completed { s with resValue := BitVec.ofNat 16 (pidAt s s.argOffset.toNat) })) ∧
    (s.argOffset.toNat + 4 > 1400 → exec .readPid s = .next (raised 0b000100 s))

/-- R79: WRITE_PID completes with v = VAL & 0x1FFF in the PID bits of bytes o + 1 and o + 2, bits [7:5] of byte o + 1 kept,
every other byte and every other register unchanged; an offset above 1396 raises RANGE and has no other effect. -/
def Obligations.WritePidChangesOnlyThePidBits : Prop :=
  decode 0x00000002 = .ok .writePid ∧
  ∀ s : State,
    (s.argOffset.toNat + 4 ≤ 1400 →
      ∃ t, exec .writePid s = .next t ∧ t = completed { s with buf := t.buf } ∧
        (t.byteAt (s.argOffset.toNat + 1)).toNat =
          (s.byteAt (s.argOffset.toNat + 1)).toNat / 32 * 32 + s.argValue.toNat % 8192 / 256 ∧
        (t.byteAt (s.argOffset.toNat + 2)).toNat = s.argValue.toNat % 256 ∧
        ∀ a, a ≠ s.argOffset.toNat + 1 → a ≠ s.argOffset.toNat + 2 → t.byteAt a = s.byteAt a) ∧
    (s.argOffset.toNat + 4 > 1400 → exec .writePid s = .next (raised 0b000100 s))

/-- R80: IS_SYNCED writes 1 to RES_VALUE exactly when the byte at ARG_OFFSET is 0x47, else 0, the rest unchanged; an offset
above 1396 raises RANGE and has no other effect. -/
def Obligations.IsSyncedTestsTheSyncByte : Prop :=
  decode 0x00000003 = .ok .isSynced ∧
  ∀ s : State,
    (s.argOffset.toNat + 4 ≤ 1400 →
      exec .isSynced s =
        .next (completed { s with resValue := if s.byteAt s.argOffset.toNat = 0x47 then 1 else 0 })) ∧
    (s.argOffset.toNat + 4 > 1400 → exec .isSynced s = .next (raised 0b000100 s))

/-- R77 through the commands: after WRITE_PID completes, READ_PID at the same offset gives VAL & 0x1FFF, and bits [7:5] of
byte o + 1 are as before. -/
def Obligations.ReadPidAfterWritePidGivesTheMaskedValue : Prop :=
  ∀ s : State, s.argOffset.toNat + 4 ≤ 1400 →
    ∃ t u, exec .writePid s = .next t ∧ exec .readPid t = .next u ∧
      u.resValue.toNat = s.argValue.toNat % 8192 ∧
      (t.byteAt (s.argOffset.toNat + 1)).toNat / 32 = (s.byteAt (s.argOffset.toNat + 1)).toNat / 32

/-! ## The resolver -/

/-- R86, R81, R85: RESOLVE writes L div 188, L mod 188 and the class of the prefix, the rest unchanged; a length above 1400
raises RANGE and has no other effect. -/
def Obligations.ResolveSplitsTheLength : Prop :=
  decode 0x00000004 = .ok .resolve ∧
  ∀ s : State,
    (s.length.toNat ≤ 1400 →
      exec .resolve s = .next (completed { s with
        resCount := BitVec.ofNat 16 (s.length.toNat / 188)
        resOffset := BitVec.ofNat 16 (s.length.toNat % 188)
        resEncap := prefixClass (s.length.toNat % 188) })) ∧
    (s.length.toNat > 1400 → exec .resolve s = .next (raised 0b000100 s))

/-- R81, R84: what RESOLVE leaves for a length of at most 1400 determines the length (prefix + 188 * count), with at most 7
packets and a prefix of at most 187; a length 188 k resolves to k packets and class 0, a length 188 k + 12 to k packets, a
12-byte prefix and class 1. -/
def Obligations.ResolvedPartsAddUpToTheLength : Prop :=
  ∀ s : State, s.length.toNat ≤ 1400 →
    ∃ t, exec .resolve s = .next t ∧
      t.resOffset.toNat + 188 * t.resCount.toNat = s.length.toNat ∧
      t.resCount.toNat ≤ 7 ∧ t.resOffset.toNat ≤ 187 ∧
      (∀ k, s.length.toNat = 188 * k → t.resCount.toNat = k ∧ t.resOffset = 0 ∧ t.resEncap = 0) ∧
      (∀ k, s.length.toNat = 188 * k + 12 → t.resCount.toNat = k ∧ t.resOffset = 12 ∧ t.resEncap = 1)

/-! ## The scanner -/

/-- R95, R87: MEMBER writes 1 to RES_VALUE exactly when some PT[i] with i < N equals VAL & 0x1FFF, else 0, the rest
unchanged, in either phase. -/
def Obligations.MemberTestsThePatchSet : Prop :=
  decode 0x00000005 = .ok .member ∧
  ∀ s : State, exec .member s =
    .next (completed { s with resValue := if isMember s (s.argValue.toNat % 8192) then 1 else 0 })

/-- R96, R89: with the lock set and the slices in the buffer, SCAN_PATCH completes; every byte, both result registers and the
three counters are what the state before says, slice by slice, and all else is unchanged. LOCK = 0 raises UNLOCKED; else a
window past 1400 raises RANGE; neither has another effect. -/
def Obligations.ScanPatchPatchesTheMemberSlices : Prop :=
  decode 0x00000006 = .ok .scanPatch ∧
  ∀ s : State,
    (s.lock = true → s.argOffset.toNat + 188 * s.argCount.toNat ≤ 1400 →
      ∃ t, exec .scanPatch s = .next t ∧
        t = completed (scanRegisters s s.argOffset.toNat s.argCount.toNat t.buf) ∧
        ∀ a, t.byteAt a = scannedByte s s.argOffset.toNat s.argCount.toNat a) ∧
    (s.lock = false → exec .scanPatch s = .next (raised 0b000010 s)) ∧
    (s.lock = true → s.argOffset.toNat + 188 * s.argCount.toNat > 1400 →
      exec .scanPatch s = .next (raised 0b000100 s))

/-- R97: with the lock set and L at most 1400, PROCESS completes as the resolver and then the scanner over the L div 188
slices from L mod 188, counts one datagram, and all else is unchanged. LOCK = 0 raises UNLOCKED; else L above 1400 raises
RANGE; neither has another effect. -/
def Obligations.ProcessResolvesThenScans : Prop :=
  decode 0x00000007 = .ok .process ∧
  ∀ s : State,
    (s.lock = true → s.length.toNat ≤ 1400 →
      ∃ t, exec .process s = .next t ∧
        t = completed { scanRegisters s (s.length.toNat % 188) (s.length.toNat / 188) t.buf with
          resCount := BitVec.ofNat 16 (s.length.toNat / 188)
          resOffset := BitVec.ofNat 16 (s.length.toNat % 188)
          resEncap := prefixClass (s.length.toNat % 188)
          cntDgram := saturating s.cntDgram 1 } ∧
        ∀ a, t.byteAt a = scannedByte s (s.length.toNat % 188) (s.length.toNat / 188) a) ∧
    (s.lock = false → exec .process s = .next (raised 0b000010 s)) ∧
    (s.lock = true → s.length.toNat > 1400 → exec .process s = .next (raised 0b000100 s))

/-- R98, C3: after a SCAN_PATCH that completes, the same SCAN_PATCH again changes no byte and finds the same sync errors; its
patched count is 0 when 8191 is not a member, and else the number of synced slices whose PID is 8191 after the first. With no
slices the registers are written 0, by log 16, the model's reading. -/
def Obligations.SecondScanChangesNoByte : Prop :=
  ∀ s : State, s.lock = true → s.argOffset.toNat + 188 * s.argCount.toNat ≤ 1400 →
    ∃ t u, exec .scanPatch s = .next t ∧ exec .scanPatch t = .next u ∧
      (∀ a, u.byteAt a = t.byteAt a) ∧ u.resSyncErr = t.resSyncErr ∧
      u.resPatched = BitVec.ofNat 16
        (if isMember s 8191 then
          countSlices (fun a => syncedAt t a && decide (pidAt t a = 8191)) s.argOffset.toNat s.argCount.toNat
        else 0)

/-- R98: after a PROCESS that completes, every slice that was synced with a member PID reads PID 8191 and keeps byte 0, bits
[7:5] of byte 1 and bytes 3 to 187; every other slice keeps all 188 bytes; and the prefix keeps every byte. -/
def Obligations.ProcessedSlicesKeepAllButThePid : Prop :=
  ∀ s : State, s.lock = true → s.length.toNat ≤ 1400 →
    ∃ t, exec .process s = .next t ∧
      (∀ a, a < s.length.toNat % 188 → t.byteAt a = s.byteAt a) ∧
      (∀ a, s.length.toNat ≤ a → t.byteAt a = s.byteAt a) ∧
      ∀ k, k < s.length.toNat / 188 →
        (patchedAt s (s.length.toNat % 188 + 188 * k) = true →
          pidAt t (s.length.toNat % 188 + 188 * k) = 8191 ∧
          (t.byteAt (s.length.toNat % 188 + 188 * k + 1)).toNat / 32 =
            (s.byteAt (s.length.toNat % 188 + 188 * k + 1)).toNat / 32 ∧
          ∀ j, j < 188 → j ≠ 1 → j ≠ 2 →
            t.byteAt (s.length.toNat % 188 + 188 * k + j) = s.byteAt (s.length.toNat % 188 + 188 * k + j)) ∧
        (patchedAt s (s.length.toNat % 188 + 188 * k) = false →
          ∀ j, j < 188 → t.byteAt (s.length.toNat % 188 + 188 * k + j) = s.byteAt (s.length.toNat % 188 + 188 * k + j))

/-- R28, R87: the order of the members and duplicate members change no result of any command. Two tables with the same
members give every command the same outcome, the tables themselves aside. -/
def Obligations.OnlyTheSetOfMembersMatters : Prop :=
  ∀ (i : Instr) (s : State) (pt : Vector Pid 100) (n : Nat),
    (∀ p, isMember { s with pt := pt, patchCount := n } p = isMember s p) →
    exec i { s with pt := pt, patchCount := n } = mapNext (fun t => { t with pt := pt, patchCount := n }) (exec i s)

/-- R83, R110: with the lock set, PROCESS of a datagram shorter than 188 bytes completes, resolves no packet, takes the whole
length as prefix, counts the datagram and no slice, sets no ERR bit and changes no byte. -/
def Obligations.ShortDatagramIsNoError : Prop :=
  ∀ s : State, s.lock = true → s.length.toNat < 188 →
    ∃ t, exec .process s = .next t ∧ t.err = s.err ∧ t.done = true ∧
      t.resCount = 0 ∧ t.resOffset = s.length ∧ t.resPatched = 0 ∧ t.resSyncErr = 0 ∧
      t.cntDgram = saturating s.cntDgram 1 ∧ t.cntPkt = s.cntPkt ∧ t.cntPatch = s.cntPatch ∧
      t.cntSyncErr = s.cntSyncErr ∧ ∀ a, t.byteAt a = s.byteAt a

/-! ## Errors and frames of all commands -/

/-- R112: SCAN_PATCH and PROCESS with LOCK = 0 raise UNLOCKED whatever their window is, so before the range check; no other
command checks LOCK: its outcome with LOCK set to anything is its outcome, LOCK aside; and the decode check comes first: a word
that decodes to no command raises ILLEGAL alone, whatever LOCK is. -/
def Obligations.OnlyScanPatchAndProcessCheckTheLock : Prop :=
  ∀ (i : Instr) (s : State),
    (needsLock i = true → s.lock = false → exec i s = .next (raised 0b000010 s)) ∧
    (needsLock i = false → ∀ b, exec i { s with lock := b } = mapNext (fun t => { t with lock := b }) (exec i s)) ∧
    (∀ e, s.busy = true → decode s.latchedCmd = .error e → engineStep s = .next (raised 0b000001 s))

/-- R113: with the lock as the command needs it, a window that does not fit raises RANGE and has no other effect, and a
window that fits leaves ERR as it was; NOP and MEMBER never raise it. -/
def Obligations.RangeIsRaisedExactlyForLargeWindows : Prop :=
  ∀ (i : Instr) (s : State), (needsLock i = true → s.lock = true) →
    (windowTooLarge s i → exec i s = .next (raised 0b000100 s)) ∧
    (¬ windowTooLarge s i → ∃ t, exec i s = .next t ∧ t.err = s.err)

/-- R117, R118: the next state of a command either has ERR as it was, or is the old state with UNLOCKED or RANGE set, BUSY = 0
and DONE = 1, and nothing else changed. -/
def Obligations.CommandErrorsArePrecise : Prop :=
  ∀ (i : Instr) (s : State), ∃ t, exec i s = .next t ∧
    (t.err = s.err ∨ t = raised 0b000010 s ∨ t = raised 0b000100 s)

/-- R72: which registers each command writes; a register of the table marked '-' keeps its value, no command writes LENGTH,
ARG_*, CTRL, PT or PATCH_COUNT, and every command leaves BUSY = 0 and DONE = 1. -/
def Obligations.CommandsWriteOnlyTheirColumns : Prop :=
  ∀ (i : Instr) (s : State), ∃ t, exec i s = .next t ∧
    match i with
    | .nop => t = completed s
    | .readPid | .isSynced | .member => t = completed { s with resValue := t.resValue, err := t.err }
    | .writePid => t = completed { s with buf := t.buf, err := t.err }
    | .resolve =>
      t = completed { s with resCount := t.resCount, resOffset := t.resOffset, resEncap := t.resEncap, err := t.err }
    | .scanPatch =>
      t = completed { s with
        buf := t.buf, resPatched := t.resPatched, resSyncErr := t.resSyncErr, cntPkt := t.cntPkt,
        cntPatch := t.cntPatch, cntSyncErr := t.cntSyncErr, err := t.err }
    | .process =>
      t = completed { s with
        buf := t.buf, resCount := t.resCount, resOffset := t.resOffset, resEncap := t.resEncap,
        resPatched := t.resPatched, resSyncErr := t.resSyncErr, cntDgram := t.cntDgram, cntPkt := t.cntPkt,
        cntPatch := t.cntPatch, cntSyncErr := t.cntSyncErr, err := t.err }

/-- R118: ERR is never read by a command. With ERR replaced, every command does the same to every other field and sets the
same ERR bits. The same holds of the model's own fields of the host's side (log 1, log 2, log 4, the model's choice). -/
def Obligations.CommandsNeverReadErr : Prop :=
  ∀ (i : Instr) (s : State) (e : BitVec 6) (d : Nat) (p : List HostOp) (q : List Turn) (o : List Reply),
    ∃ t m, exec i s = .next t ∧ t.err = s.err ||| m ∧
      exec i { s with err := e, draws := d, hostProgram := p, schedule := q, observed := o } =
        .next { t with err := e ||| m, draws := d, hostProgram := p, schedule := q, observed := o }

/-! ## The host port -/

/-- R99: what REG_RD returns and leaves, at every offset and width, by R18's map. The one field a legal read moves is `draws`,
the model's own index of the free values (log 4), which is no state of the block. -/
def Obligations.RegisterReadsFollowTheMap : Prop :=
  ∀ s : State,
    (∀ off width, ¬ (width = 4 ∧ mapped off) → regRd off width s = (0, { s with err := s.err ||| 0b100000 })) ∧
    (s.busy = true → ∀ off, off.toNat % 4 = 0 → 0x028 ≤ off.toNat → off.toNat ≤ 0x04C →
      regRd off 4 s = (Config.drawWord s.draws, { s with draws := s.draws + 1 })) ∧
    (s.busy = false →
      regRd 0x028 4 s = (s.resCount.setWidth 32, s) ∧ regRd 0x02C 4 s = (s.resOffset.setWidth 32, s) ∧
      regRd 0x030 4 s = (s.resEncap.setWidth 32, s) ∧ regRd 0x034 4 s = (s.resPatched.setWidth 32, s) ∧
      regRd 0x038 4 s = (s.resSyncErr.setWidth 32, s) ∧ regRd 0x03C 4 s = (s.resValue.setWidth 32, s) ∧
      regRd 0x040 4 s = (s.cntDgram, s) ∧ regRd 0x044 4 s = (s.cntPkt, s) ∧
      regRd 0x048 4 s = (s.cntPatch, s) ∧ regRd 0x04C 4 s = (s.cntSyncErr, s)) ∧
    regRd 0x000 4 s = (0x54535046, s) ∧ regRd 0x004 4 s = (0xBC640578, s) ∧
    regRd 0x008 4 s = (if s.lock then 1 else 0, s) ∧
    regRd 0x00C 4 s =
      (BitVec.ofNat 32 ((if s.busy then 1 else 0) + (if s.done then 2 else 0) + (if s.err = 0 then 0 else 4)), s) ∧
    regRd 0x010 4 s = (BitVec.ofNat 32 s.err.toNat, s) ∧ regRd 0x014 4 s = (0, s) ∧
    regRd 0x018 4 s = (s.length.setWidth 32, s) ∧ regRd 0x01C 4 s = (s.argOffset.setWidth 32, s) ∧
    regRd 0x020 4 s = (s.argCount.setWidth 32, s) ∧ regRd 0x024 4 s = (s.argValue.setWidth 32, s) ∧
    (s.patchCount ≤ 100 → regRd 0x050 4 s = (BitVec.ofNat 32 s.patchCount, s)) ∧ regRd 0x054 4 s = (0, s) ∧
    ∀ i : Fin 100, regRd (BitVec.ofNat 12 (0x100 + 4 * i.val)) 4 s =
      (if i.val < s.patchCount then (s.pt[i.val]).setWidth 32 else 0, s)

/-- R18, R35: each register's offset names that register, each offset names at most one register, and the offsets named are
0x000 to 0x054 and 0x100 to 0x28C in steps of 4. -/
def Obligations.RegisterMapIsOneToOne : Prop :=
  (∀ r : Reg, regAt r.offset = some r) ∧
  (∀ (off : BitVec 12) (r : Reg), regAt off = some r → r.offset = off) ∧
  ∀ off : BitVec 12, (regAt off).isSome = true ↔ mapped off

/-- R25, R100: a legal write to an operand register stores its low 16 bits while BUSY = 0; while BUSY = 1 it is dropped with
HAZARD. -/
def Obligations.OperandWritesKeepTheLowHalf : Prop :=
  ∀ (w : Word) (s : State),
    (s.busy = false →
      regWr 0x018 4 w s = { s with length := BitVec.ofNat 16 w.toNat } ∧
      regWr 0x01C 4 w s = { s with argOffset := BitVec.ofNat 16 w.toNat } ∧
      regWr 0x020 4 w s = { s with argCount := BitVec.ofNat 16 w.toNat } ∧
      regWr 0x024 4 w s = { s with argValue := BitVec.ofNat 16 w.toNat }) ∧
    (s.busy = true →
      regWr 0x018 4 w s = { s with err := s.err ||| 0b010000 } ∧
      regWr 0x01C 4 w s = { s with err := s.err ||| 0b010000 } ∧
      regWr 0x020 4 w s = { s with err := s.err ||| 0b010000 } ∧
      regWr 0x024 4 w s = { s with err := s.err ||| 0b010000 })

/-- R100: a write to a read-only register has no effect at all, whether or not BUSY = 1, and sets no ERR bit. -/
def Obligations.ReadOnlyRegistersIgnoreWrites : Prop :=
  ∀ (off : BitVec 12) (w : Word) (s : State), mapped off →
    (off.toNat ≤ 0x004 ∨ off.toNat = 0x00C ∨ 0x028 ≤ off.toNat ∧ off.toNat ≤ 0x050 ∨ 0x100 ≤ off.toNat) →
    regWr off 4 w s = s

/-- R101: a legal write to CTRL while BUSY = 0 sets LOCK when bit 0 is 1 and never clears it; while BUSY = 1 it is dropped
with HAZARD. -/
def Obligations.CtrlWriteOnlySetsLock : Prop :=
  ∀ (w : Word) (s : State),
    (s.busy = false → regWr 0x008 4 w s = { s with lock := s.lock || decide (w.toNat % 2 = 1) }) ∧
    (s.busy = true → regWr 0x008 4 w s = { s with err := s.err ||| 0b010000 })

/-- R102: a legal write to ERR clears exactly the bits written 1, whether or not BUSY = 1, and changes nothing else. -/
def Obligations.ErrWriteClearsTheBitsWrittenOne : Prop :=
  ∀ (w : Word) (s : State), ∃ e : BitVec 6,
    regWr 0x010 4 w s = { s with err := e } ∧
    ∀ j, j < 6 → e.getLsbD j = (s.err.getLsbD j && !w.getLsbD j)

/-- R103, R114: a legal write to PATCH_PUSH is dropped with HAZARD while BUSY = 1; else it is rejected with CFG when LOCK = 1,
when 100 PIDs are stored or when the value is above 8191; else PT[N] takes it and N grows by one, the other entries and all
else unchanged. -/
def Obligations.PatchPushAppendsOrRejects : Prop :=
  ∀ (w : Word) (s : State), s.patchCount ≤ 100 →
    (s.busy = true → regWr 0x054 4 w s = { s with err := s.err ||| 0b010000 }) ∧
    (s.busy = false → (s.lock = true ∨ s.patchCount = 100 ∨ w.toNat > 8191) →
      regWr 0x054 4 w s = { s with err := s.err ||| 0b001000 }) ∧
    (s.busy = false → s.lock = false → s.patchCount < 100 → w.toNat ≤ 8191 →
      ∃ pt : Vector Pid 100, regWr 0x054 4 w s = { s with pt := pt, patchCount := s.patchCount + 1 } ∧
        ∀ j : Fin 100, (pt[j.val]).toNat = if j.val = s.patchCount then w.toNat else (s.pt[j.val]).toNat)

/-- R104: BUF_RD of a byte below 1400 returns it and changes nothing; while BUSY = 1 it returns a free value; any other width
or address returns 0 and sets BUS. -/
def Obligations.BufferReadsReturnTheByte : Prop :=
  ∀ (a width : Nat) (s : State),
    (¬ (width = 1 ∧ a < 1400) → bufRd a width s = (0, { s with err := s.err ||| 0b100000 })) ∧
    (width = 1 → a < 1400 → s.busy = true →
      bufRd a width s = (Config.drawByte s.draws, { s with draws := s.draws + 1 })) ∧
    (width = 1 → a < 1400 → s.busy = false → bufRd a width s = (s.byteAt a, s))

/-- R105: BUF_WR of a byte below 1400 stores it and changes no other byte; while BUSY = 1 it is dropped with HAZARD; any other
width or address sets BUS and does nothing else. -/
def Obligations.BufferWritesStoreTheByte : Prop :=
  ∀ (a width : Nat) (b : Byte) (s : State),
    (¬ (width = 1 ∧ a < 1400) → bufWr a width b s = { s with err := s.err ||| 0b100000 }) ∧
    (width = 1 → a < 1400 → s.busy = true → bufWr a width b s = { s with err := s.err ||| 0b010000 }) ∧
    (width = 1 → a < 1400 → s.busy = false →
      bufWr a width b s = { s with buf := (bufWr a width b s).buf } ∧
      (bufWr a width b s).byteAt a = b ∧
      ∀ c, c ≠ a → (bufWr a width b s).byteAt c = s.byteAt c)

/-- R116: a register access of a width other than 4, at an offset that is no multiple of 4 or unmapped, and a buffer access of
a width other than 1 or at 1400 or above, sets BUS and does nothing else; a read returns 0. -/
def Obligations.BadAccessesOnlySetBus : Prop :=
  ∀ (off : BitVec 12) (a width : Nat) (w : Word) (b : Byte) (s : State),
    (¬ (width = 4 ∧ mapped off) →
      transact (.regRd off width) s = (some (.word 0), { s with err := s.err ||| 0b100000 }) ∧
      transact (.regWr off width w) s = (none, { s with err := s.err ||| 0b100000 })) ∧
    (¬ (width = 1 ∧ a < 1400) →
      transact (.bufRd a width) s = (some (.byte 0), { s with err := s.err ||| 0b100000 }) ∧
      transact (.bufWr a width b) s = (none, { s with err := s.err ||| 0b100000 }))

/-- R115, R133: while BUSY = 1 a write to CMD, CTRL, LENGTH, ARG_OFFSET, ARG_COUNT, ARG_VALUE or PATCH_PUSH and a buffer write
are dropped and set HAZARD, the command in flight unaffected; a write to ERR is no hazard, and a write to a read-only register
does nothing. -/
def Obligations.BusyWritesAreDroppedWithHazard : Prop :=
  ∀ (off : BitVec 12) (w : Word) (a : Nat) (b : Byte) (s : State), s.busy = true →
    (off = 0x014 ∨ off = 0x008 ∨ off = 0x018 ∨ off = 0x01C ∨ off = 0x020 ∨ off = 0x024 ∨ off = 0x054 →
      regWr off 4 w s = { s with err := s.err ||| 0b010000 }) ∧
    (a < 1400 → bufWr a 1 b s = { s with err := s.err ||| 0b010000 }) ∧
    regWr 0x010 4 w s = { s with err := (regWr 0x010 4 w s).err } ∧ (regWr 0x010 4 w s).err &&& ~~~s.err = 0 ∧
    (mapped off → (off.toNat ≤ 0x004 ∨ off.toNat = 0x00C ∨ 0x028 ≤ off.toNat ∧ off.toNat ≤ 0x050 ∨ 0x100 ≤ off.toNat) →
      regWr off 4 w s = s)

/-- R45, R51, R65: a host turn performs the next transaction of the host's program on the block and hands the value of a read
to the host; a round of poll reads STATUS and leaves the program only when BUSY reads 0. The program and the values read are the
model's form of the host (log 2), and that it is the host's turn where the schedule has ended with BUSY = 0 is the model's choice
(log 1). -/
def Obligations.HostTurnPerformsTheNextOperation : Prop :=
  ∀ (s : State) (rest : List HostOp), (s.schedule.head? = some .host ∨ s.schedule = [] ∧ s.busy = false) →
    (∀ off width, s.hostProgram = .transaction (.regRd off width) :: rest →
      step s = .next { (regRd off width s).2 with
        schedule := s.schedule.tail, hostProgram := rest, observed := .word (regRd off width s).1 :: s.observed }) ∧
    (∀ off width w, s.hostProgram = .transaction (.regWr off width w) :: rest →
      step s = .next { regWr off width w s with schedule := s.schedule.tail, hostProgram := rest }) ∧
    (∀ a width, s.hostProgram = .transaction (.bufRd a width) :: rest →
      step s = .next { (bufRd a width s).2 with
        schedule := s.schedule.tail, hostProgram := rest, observed := .byte (bufRd a width s).1 :: s.observed }) ∧
    (∀ a width b, s.hostProgram = .transaction (.bufWr a width b) :: rest →
      step s = .next { bufWr a width b s with schedule := s.schedule.tail, hostProgram := rest }) ∧
    (s.hostProgram = .poll :: rest →
      step s = .next { s with
        schedule := s.schedule.tail
        hostProgram := if s.busy then .poll :: rest else rest
        observed := .word (regRd 0x00C 4 s).1 :: s.observed })

/-- R64, R65: each line of a host program is the one transaction R64 gives it, a register's name standing for its offset, and
each pseudo-instruction expands as R65's table says; `poll` is kept as the loop it is (log 14, the model's form of it). -/
def Obligations.PseudoInstructionsExpandToTransactions : Prop :=
  ∀ (i : Instr) (r : Reg) (off : BitVec 12) (w : Word) (addr n pid : Nat) (b : Byte) (bytes : List Byte) (pids : List Word),
    (HostLine.wr r w).expand = [.transaction (.regWr r.offset 4 w)] ∧
    (HostLine.wrAt off w).expand = [.transaction (.regWr off 4 w)] ∧
    (HostLine.rd r).expand = [.transaction (.regRd r.offset 4)] ∧
    (HostLine.wb addr b).expand = [.transaction (.bufWr addr 1 b)] ∧
    (HostLine.rb addr).expand = [.transaction (.bufRd addr 1)] ∧
    (HostLine.cmd i).expand = [.transaction (.regWr 0x014 4 (encode i))] ∧
    (HostLine.cmdWord w).expand = [.transaction (.regWr 0x014 4 w)] ∧
    HostLine.poll.expand = [.poll] ∧
    (HostLine.run i).expand = (HostLine.cmd i).expand ++ HostLine.poll.expand ∧
    (HostLine.wblk addr bytes).expand.length = bytes.length ∧
    (∀ j (h : j < bytes.length), (HostLine.wblk addr bytes).expand[j]? = some (.transaction (.bufWr (addr + j) 1 bytes[j]))) ∧
    (HostLine.fill addr n b).expand.length = n ∧
    (∀ j, j < n → (HostLine.fill addr n b).expand[j]? = some (.transaction (.bufWr (addr + j) 1 b))) ∧
    (HostLine.tshdr addr pid).expand =
      [.transaction (.bufWr addr 1 0x47), .transaction (.bufWr (addr + 1) 1 (BitVec.ofNat 8 (pid / 256 % 32))),
        .transaction (.bufWr (addr + 2) 1 (BitVec.ofNat 8 (pid % 256))), .transaction (.bufWr (addr + 3) 1 0x10)] ∧
    (HostLine.push pids).expand = pids.map (fun p => .transaction (.regWr 0x054 4 p)) ∧
    HostLine.lock.expand = [.transaction (.regWr 0x008 4 1)] ∧
    HostLine.clrerr.expand = [.transaction (.regWr 0x010 4 0x3F)]

/-! ## Whole-machine rules -/

/-- §7, R39, R48, R118: the block has no fatal error path. From every state a step answers a next state: no command ever
accesses a byte outside 0..1399 and no word stops the machine. -/
def Obligations.EveryStepHasANextState : Prop := ∀ s : State, ∃ t, step s = .next t

/-- The invariant of Safety.lean is kept by every step, whoever moves: the stored buffer bytes stay in canonical form, N stays at
most 100, BUSY and DONE are never both 1, the result registers stay in the ranges commands write, no counter of slices passes
CNT_PKT, and nothing is counted while LOCK = 0. -/
def Obligations.EveryStepKeepsTheInvariant : Prop := ∀ s t : State, s.Inv → step s = .next t → t.Inv

/-- The invariant holds right after reset. -/
def Obligations.ResetMeetsTheInvariant : Prop := State.reset.Inv

/-- R21, R28, R29: no step but a reset clears LOCK, removes or changes a member of the Patch Set, or changes PT or PATCH_COUNT
while LOCK = 1. -/
def Obligations.LockedPatchSetIsImmutable : Prop :=
  ∀ s t : State, step s = .next t → s.turn ≠ .reset →
    (s.lock = true → t.lock = true ∧ t.pt = s.pt ∧ t.patchCount = s.patchCount) ∧ s.members <+: t.members

/-- An engine step of s completes with an error: the latched word is no command, the command needs the lock and LOCK = 0, or
its window does not fit (R111, R112, R113). -/
def Sys2Proof.Spec.engineStepFails (s : State) : Prop :=
  (∃ e, decode s.latchedCmd = .error e) ∨
  ∃ i, decode s.latchedCmd = .ok i ∧ (needsLock i = true ∧ s.lock = false ∨ windowTooLarge s i)

/-- R27: no step but a reset decreases a counter; a counter changes only in an engine step with a command in flight, and only
when that step completes without error, whether or not the ERR bit of an error is 1 already. -/
def Obligations.CountersNeverDecrease : Prop :=
  ∀ s t : State, step s = .next t → s.turn ≠ .reset →
    s.cntDgram.toNat ≤ t.cntDgram.toNat ∧ s.cntPkt.toNat ≤ t.cntPkt.toNat ∧
    s.cntPatch.toNat ≤ t.cntPatch.toNat ∧ s.cntSyncErr.toNat ≤ t.cntSyncErr.toNat ∧
    (s.turn = .host ∨ s.busy = false ∨ engineStepFails s ∨ t.err ≠ s.err →
      t.cntDgram = s.cntDgram ∧ t.cntPkt = s.cntPkt ∧ t.cntPatch = s.cntPatch ∧ t.cntSyncErr = s.cntSyncErr)

/-- R31, R130: between resets a buffer byte changes only when the host's buffer write to that address is performed with
BUSY = 0, and then to the byte written, or in the engine step of WRITE_PID, SCAN_PATCH or PROCESS. -/
def Obligations.BufferBytesAreStableUntilWritten : Prop :=
  ∀ (s t : State) (a : Nat), step s = .next t → s.turn ≠ .reset → t.byteAt a ≠ s.byteAt a →
    (s.turn = .host ∧ s.busy = false ∧
      ∃ b rest, s.hostProgram = .transaction (.bufWr a 1 b) :: rest ∧ t.byteAt a = b) ∨
    (s.turn = .engine ∧ s.busy = true ∧
      (s.latchedCmd = 0x00000002 ∨ s.latchedCmd = 0x00000006 ∨ s.latchedCmd = 0x00000007))

/-- R46, R52: a host turn while a command is in flight changes nothing of the block but ERR (and the host's own side): the
command completes with the operands, buffer, Patch Set and lock it was accepted with. -/
def Obligations.HostTurnsNeverDisturbTheCommandInFlight : Prop :=
  ∀ s t : State, s.busy = true → s.turn = .host → step s = .next t →
    t = { s with err := t.err, draws := t.draws, hostProgram := t.hostProgram, schedule := t.schedule,
                 observed := t.observed }

/-- R67, R127: with BUSY = 0 the engine has no step, and with nothing for the host to do either the block keeps all its
state. -/
def Obligations.IdleBlockKeepsItsState : Prop :=
  ∀ s t : State, s.busy = false → s.turn ≠ .reset → (s.turn = .engine ∨ s.hostProgram = []) →
    step s = .next t → t = { s with schedule := s.schedule.tail }

/-- R129: every register right after reset, as a host reads it: ID and PARAMS their constants, every other mapped offset 0;
the block is idle, unlocked and without error. Each buffer byte is the free draw of that reset: that it is the constant
`Config.resetByte` at reset number 0 is the model's form of R130's draw (log 3, log 15). -/
def Obligations.ResetValuesAreTheTables : Prop :=
  (∀ off : BitVec 12, mapped off → 0x008 ≤ off.toNat → regRd off 4 State.reset = (0, State.reset)) ∧
  regRd 0x000 4 State.reset = (0x54535046, State.reset) ∧ regRd 0x004 4 State.reset = (0xBC640578, State.reset) ∧
  State.reset.busy = false ∧ State.reset.lock = false ∧ State.reset.members = [] ∧
  ∀ a, State.reset.byteAt a = Config.resetByte 0 a

/-- R128, R130: the reset input may come in any state, a command in flight included; it brings every piece of the block's
state to its value after reset and every buffer byte to a fresh free draw. The model's choices in this: LATCHED_CMD and the
entries of PT, which R129 leaves unspecified, become 0 (log 5, log 6); the draw is `Config.resetByte` at the number of the reset
(log 3); and what is the host's stays (log 9). -/
def Obligations.ResetInputWorksInAnyState : Prop :=
  ∀ s : State, s.schedule.head? = some .reset →
    ∃ t, step s = .next t ∧
      t = { State.reset with
        resets := s.resets + 1, draws := s.draws, hostProgram := s.hostProgram, schedule := s.schedule.tail,
        observed := s.observed } ∧
      ∀ a, t.byteAt a = Config.resetByte (s.resets + 1) a

/-- R88: the saturating addition is min(c + n, 2^32 - 1) and so never decreases a counter. -/
def Obligations.CounterAdditionSaturates : Prop :=
  ∀ (c : Word) (n : Nat), (satAdd c n).toNat = min (c.toNat + n) 4294967295

/-! ## The premises of R139 -/

/-- R53, R134, R135, R139: in a launched run whose host polls, every transaction that R135 keeps for after the poll meets
BUSY = 0, and no read has returned an unspecified value. How a poll and the unspecified reads are recorded is the model's form
(log 4, log 18). -/
def Obligations.PollingHostMeetsNoBusyBlock : Prop :=
  ∀ (program : List HostOp) (turns : List Turn) (k : Nat) (t : State),
    (launch program turns).polls → core.run k (launch program turns) = .next t →
    t.draws = 0 ∧ ∀ x, t.nextTransaction = some x → needsPoll x = true → t.busy = false

/-- R130, R139: a run that writes first every buffer byte it reads does not depend on what the buffer held after reset. With
the draws of every reset replaced by those of another (`resets`, the model's index of them, moved by d: log 3), each state of
the run is the same, that index aside. -/
def Obligations.RunsThatWriteFirstIgnoreTheDraws : Prop :=
  ∀ (s t : State) (k d : Nat), s.writesFirst → core.run k s = .next t →
    core.run k { s with resets := s.resets + d } = .next { t with resets := t.resets + d }
end

