-- ==== Sys2Proof/Laws/State.lean ====
section
/-! SUPPORT. One lemma per field of State for each named update of it, true by rfl, so that no later proof unfolds one of
these updates. -/

namespace Sys2Proof.Machine

@[simp] theorem setErr_lock (e : ErrBit) (s : State) : (setErr e s).lock = s.lock := rfl
@[simp] theorem setErr_busy (e : ErrBit) (s : State) : (setErr e s).busy = s.busy := rfl
@[simp] theorem setErr_done (e : ErrBit) (s : State) : (setErr e s).done = s.done := rfl
@[simp] theorem setErr_err (e : ErrBit) (s : State) : (setErr e s).err = s.err ||| e.mask := rfl
@[simp] theorem setErr_latchedCmd (e : ErrBit) (s : State) : (setErr e s).latchedCmd = s.latchedCmd := rfl
@[simp] theorem setErr_length (e : ErrBit) (s : State) : (setErr e s).length = s.length := rfl
@[simp] theorem setErr_argOffset (e : ErrBit) (s : State) : (setErr e s).argOffset = s.argOffset := rfl
@[simp] theorem setErr_argCount (e : ErrBit) (s : State) : (setErr e s).argCount = s.argCount := rfl
@[simp] theorem setErr_argValue (e : ErrBit) (s : State) : (setErr e s).argValue = s.argValue := rfl
@[simp] theorem setErr_resCount (e : ErrBit) (s : State) : (setErr e s).resCount = s.resCount := rfl
@[simp] theorem setErr_resOffset (e : ErrBit) (s : State) : (setErr e s).resOffset = s.resOffset := rfl
@[simp] theorem setErr_resEncap (e : ErrBit) (s : State) : (setErr e s).resEncap = s.resEncap := rfl
@[simp] theorem setErr_resPatched (e : ErrBit) (s : State) : (setErr e s).resPatched = s.resPatched := rfl
@[simp] theorem setErr_resSyncErr (e : ErrBit) (s : State) : (setErr e s).resSyncErr = s.resSyncErr := rfl
@[simp] theorem setErr_resValue (e : ErrBit) (s : State) : (setErr e s).resValue = s.resValue := rfl
@[simp] theorem setErr_cntDgram (e : ErrBit) (s : State) : (setErr e s).cntDgram = s.cntDgram := rfl
@[simp] theorem setErr_cntPkt (e : ErrBit) (s : State) : (setErr e s).cntPkt = s.cntPkt := rfl
@[simp] theorem setErr_cntPatch (e : ErrBit) (s : State) : (setErr e s).cntPatch = s.cntPatch := rfl
@[simp] theorem setErr_cntSyncErr (e : ErrBit) (s : State) : (setErr e s).cntSyncErr = s.cntSyncErr := rfl
@[simp] theorem setErr_patchCount (e : ErrBit) (s : State) : (setErr e s).patchCount = s.patchCount := rfl
@[simp] theorem setErr_pt (e : ErrBit) (s : State) : (setErr e s).pt = s.pt := rfl
@[simp] theorem setErr_buf (e : ErrBit) (s : State) : (setErr e s).buf = s.buf := rfl
@[simp] theorem setErr_resets (e : ErrBit) (s : State) : (setErr e s).resets = s.resets := rfl
@[simp] theorem setErr_draws (e : ErrBit) (s : State) : (setErr e s).draws = s.draws := rfl
@[simp] theorem setErr_hostProgram (e : ErrBit) (s : State) : (setErr e s).hostProgram = s.hostProgram := rfl
@[simp] theorem setErr_schedule (e : ErrBit) (s : State) : (setErr e s).schedule = s.schedule := rfl
@[simp] theorem setErr_observed (e : ErrBit) (s : State) : (setErr e s).observed = s.observed := rfl
@[simp] theorem setErr_byteAt (e : ErrBit) (s : State) (a : Nat) : (setErr e s).byteAt a = s.byteAt a := rfl
@[simp] theorem setErr_members (e : ErrBit) (s : State) : (setErr e s).members = s.members := rfl

@[simp] theorem complete_lock (s : State) : (complete s).lock = s.lock := rfl
@[simp] theorem complete_busy (s : State) : (complete s).busy = false := rfl
@[simp] theorem complete_done (s : State) : (complete s).done = true := rfl
@[simp] theorem complete_err (s : State) : (complete s).err = s.err := rfl
@[simp] theorem complete_latchedCmd (s : State) : (complete s).latchedCmd = s.latchedCmd := rfl
@[simp] theorem complete_length (s : State) : (complete s).length = s.length := rfl
@[simp] theorem complete_argOffset (s : State) : (complete s).argOffset = s.argOffset := rfl
@[simp] theorem complete_argCount (s : State) : (complete s).argCount = s.argCount := rfl
@[simp] theorem complete_argValue (s : State) : (complete s).argValue = s.argValue := rfl
@[simp] theorem complete_resCount (s : State) : (complete s).resCount = s.resCount := rfl
@[simp] theorem complete_resOffset (s : State) : (complete s).resOffset = s.resOffset := rfl
@[simp] theorem complete_resEncap (s : State) : (complete s).resEncap = s.resEncap := rfl
@[simp] theorem complete_resPatched (s : State) : (complete s).resPatched = s.resPatched := rfl
@[simp] theorem complete_resSyncErr (s : State) : (complete s).resSyncErr = s.resSyncErr := rfl
@[simp] theorem complete_resValue (s : State) : (complete s).resValue = s.resValue := rfl
@[simp] theorem complete_cntDgram (s : State) : (complete s).cntDgram = s.cntDgram := rfl
@[simp] theorem complete_cntPkt (s : State) : (complete s).cntPkt = s.cntPkt := rfl
@[simp] theorem complete_cntPatch (s : State) : (complete s).cntPatch = s.cntPatch := rfl
@[simp] theorem complete_cntSyncErr (s : State) : (complete s).cntSyncErr = s.cntSyncErr := rfl
@[simp] theorem complete_patchCount (s : State) : (complete s).patchCount = s.patchCount := rfl
@[simp] theorem complete_pt (s : State) : (complete s).pt = s.pt := rfl
@[simp] theorem complete_buf (s : State) : (complete s).buf = s.buf := rfl
@[simp] theorem complete_resets (s : State) : (complete s).resets = s.resets := rfl
@[simp] theorem complete_draws (s : State) : (complete s).draws = s.draws := rfl
@[simp] theorem complete_hostProgram (s : State) : (complete s).hostProgram = s.hostProgram := rfl
@[simp] theorem complete_schedule (s : State) : (complete s).schedule = s.schedule := rfl
@[simp] theorem complete_observed (s : State) : (complete s).observed = s.observed := rfl
@[simp] theorem complete_byteAt (s : State) (a : Nat) : (complete s).byteAt a = s.byteAt a := rfl
@[simp] theorem complete_members (s : State) : (complete s).members = s.members := rfl

@[simp] theorem raiseErr_lock (e : ErrBit) (s : State) : (raiseErr e s).lock = s.lock := rfl
@[simp] theorem raiseErr_busy (e : ErrBit) (s : State) : (raiseErr e s).busy = false := rfl
@[simp] theorem raiseErr_done (e : ErrBit) (s : State) : (raiseErr e s).done = true := rfl
@[simp] theorem raiseErr_err (e : ErrBit) (s : State) : (raiseErr e s).err = s.err ||| e.mask := rfl
@[simp] theorem raiseErr_latchedCmd (e : ErrBit) (s : State) : (raiseErr e s).latchedCmd = s.latchedCmd := rfl
@[simp] theorem raiseErr_length (e : ErrBit) (s : State) : (raiseErr e s).length = s.length := rfl
@[simp] theorem raiseErr_argOffset (e : ErrBit) (s : State) : (raiseErr e s).argOffset = s.argOffset := rfl
@[simp] theorem raiseErr_argCount (e : ErrBit) (s : State) : (raiseErr e s).argCount = s.argCount := rfl
@[simp] theorem raiseErr_argValue (e : ErrBit) (s : State) : (raiseErr e s).argValue = s.argValue := rfl
@[simp] theorem raiseErr_resCount (e : ErrBit) (s : State) : (raiseErr e s).resCount = s.resCount := rfl
@[simp] theorem raiseErr_resOffset (e : ErrBit) (s : State) : (raiseErr e s).resOffset = s.resOffset := rfl
@[simp] theorem raiseErr_resEncap (e : ErrBit) (s : State) : (raiseErr e s).resEncap = s.resEncap := rfl
@[simp] theorem raiseErr_resPatched (e : ErrBit) (s : State) : (raiseErr e s).resPatched = s.resPatched := rfl
@[simp] theorem raiseErr_resSyncErr (e : ErrBit) (s : State) : (raiseErr e s).resSyncErr = s.resSyncErr := rfl
@[simp] theorem raiseErr_resValue (e : ErrBit) (s : State) : (raiseErr e s).resValue = s.resValue := rfl
@[simp] theorem raiseErr_cntDgram (e : ErrBit) (s : State) : (raiseErr e s).cntDgram = s.cntDgram := rfl
@[simp] theorem raiseErr_cntPkt (e : ErrBit) (s : State) : (raiseErr e s).cntPkt = s.cntPkt := rfl
@[simp] theorem raiseErr_cntPatch (e : ErrBit) (s : State) : (raiseErr e s).cntPatch = s.cntPatch := rfl
@[simp] theorem raiseErr_cntSyncErr (e : ErrBit) (s : State) : (raiseErr e s).cntSyncErr = s.cntSyncErr := rfl
@[simp] theorem raiseErr_patchCount (e : ErrBit) (s : State) : (raiseErr e s).patchCount = s.patchCount := rfl
@[simp] theorem raiseErr_pt (e : ErrBit) (s : State) : (raiseErr e s).pt = s.pt := rfl
@[simp] theorem raiseErr_buf (e : ErrBit) (s : State) : (raiseErr e s).buf = s.buf := rfl
@[simp] theorem raiseErr_resets (e : ErrBit) (s : State) : (raiseErr e s).resets = s.resets := rfl
@[simp] theorem raiseErr_draws (e : ErrBit) (s : State) : (raiseErr e s).draws = s.draws := rfl
@[simp] theorem raiseErr_hostProgram (e : ErrBit) (s : State) : (raiseErr e s).hostProgram = s.hostProgram := rfl
@[simp] theorem raiseErr_schedule (e : ErrBit) (s : State) : (raiseErr e s).schedule = s.schedule := rfl
@[simp] theorem raiseErr_observed (e : ErrBit) (s : State) : (raiseErr e s).observed = s.observed := rfl
@[simp] theorem raiseErr_byteAt (e : ErrBit) (s : State) (a : Nat) : (raiseErr e s).byteAt a = s.byteAt a := rfl
@[simp] theorem raiseErr_members (e : ErrBit) (s : State) : (raiseErr e s).members = s.members := rfl

@[simp] theorem acceptCmd_lock (w : Word) (s : State) : (acceptCmd w s).lock = s.lock := rfl
@[simp] theorem acceptCmd_busy (w : Word) (s : State) : (acceptCmd w s).busy = true := rfl
@[simp] theorem acceptCmd_done (w : Word) (s : State) : (acceptCmd w s).done = false := rfl
@[simp] theorem acceptCmd_err (w : Word) (s : State) : (acceptCmd w s).err = s.err := rfl
@[simp] theorem acceptCmd_latchedCmd (w : Word) (s : State) : (acceptCmd w s).latchedCmd = w := rfl
@[simp] theorem acceptCmd_length (w : Word) (s : State) : (acceptCmd w s).length = s.length := rfl
@[simp] theorem acceptCmd_argOffset (w : Word) (s : State) : (acceptCmd w s).argOffset = s.argOffset := rfl
@[simp] theorem acceptCmd_argCount (w : Word) (s : State) : (acceptCmd w s).argCount = s.argCount := rfl
@[simp] theorem acceptCmd_argValue (w : Word) (s : State) : (acceptCmd w s).argValue = s.argValue := rfl
@[simp] theorem acceptCmd_resCount (w : Word) (s : State) : (acceptCmd w s).resCount = s.resCount := rfl
@[simp] theorem acceptCmd_resOffset (w : Word) (s : State) : (acceptCmd w s).resOffset = s.resOffset := rfl
@[simp] theorem acceptCmd_resEncap (w : Word) (s : State) : (acceptCmd w s).resEncap = s.resEncap := rfl
@[simp] theorem acceptCmd_resPatched (w : Word) (s : State) : (acceptCmd w s).resPatched = s.resPatched := rfl
@[simp] theorem acceptCmd_resSyncErr (w : Word) (s : State) : (acceptCmd w s).resSyncErr = s.resSyncErr := rfl
@[simp] theorem acceptCmd_resValue (w : Word) (s : State) : (acceptCmd w s).resValue = s.resValue := rfl
@[simp] theorem acceptCmd_cntDgram (w : Word) (s : State) : (acceptCmd w s).cntDgram = s.cntDgram := rfl
@[simp] theorem acceptCmd_cntPkt (w : Word) (s : State) : (acceptCmd w s).cntPkt = s.cntPkt := rfl
@[simp] theorem acceptCmd_cntPatch (w : Word) (s : State) : (acceptCmd w s).cntPatch = s.cntPatch := rfl
@[simp] theorem acceptCmd_cntSyncErr (w : Word) (s : State) : (acceptCmd w s).cntSyncErr = s.cntSyncErr := rfl
@[simp] theorem acceptCmd_patchCount (w : Word) (s : State) : (acceptCmd w s).patchCount = s.patchCount := rfl
@[simp] theorem acceptCmd_pt (w : Word) (s : State) : (acceptCmd w s).pt = s.pt := rfl
@[simp] theorem acceptCmd_buf (w : Word) (s : State) : (acceptCmd w s).buf = s.buf := rfl
@[simp] theorem acceptCmd_resets (w : Word) (s : State) : (acceptCmd w s).resets = s.resets := rfl
@[simp] theorem acceptCmd_draws (w : Word) (s : State) : (acceptCmd w s).draws = s.draws := rfl
@[simp] theorem acceptCmd_hostProgram (w : Word) (s : State) : (acceptCmd w s).hostProgram = s.hostProgram := rfl
@[simp] theorem acceptCmd_schedule (w : Word) (s : State) : (acceptCmd w s).schedule = s.schedule := rfl
@[simp] theorem acceptCmd_observed (w : Word) (s : State) : (acceptCmd w s).observed = s.observed := rfl
@[simp] theorem acceptCmd_byteAt (w : Word) (s : State) (a : Nat) : (acceptCmd w s).byteAt a = s.byteAt a := rfl
@[simp] theorem acceptCmd_members (w : Word) (s : State) : (acceptCmd w s).members = s.members := rfl

@[simp] theorem setByte_lock (s : State) (a : Nat) (v : Byte) : (s.setByte a v).lock = s.lock := rfl
@[simp] theorem setByte_busy (s : State) (a : Nat) (v : Byte) : (s.setByte a v).busy = s.busy := rfl
@[simp] theorem setByte_done (s : State) (a : Nat) (v : Byte) : (s.setByte a v).done = s.done := rfl
@[simp] theorem setByte_err (s : State) (a : Nat) (v : Byte) : (s.setByte a v).err = s.err := rfl
@[simp] theorem setByte_latchedCmd (s : State) (a : Nat) (v : Byte) : (s.setByte a v).latchedCmd = s.latchedCmd := rfl
@[simp] theorem setByte_length (s : State) (a : Nat) (v : Byte) : (s.setByte a v).length = s.length := rfl
@[simp] theorem setByte_argOffset (s : State) (a : Nat) (v : Byte) : (s.setByte a v).argOffset = s.argOffset := rfl
@[simp] theorem setByte_argCount (s : State) (a : Nat) (v : Byte) : (s.setByte a v).argCount = s.argCount := rfl
@[simp] theorem setByte_argValue (s : State) (a : Nat) (v : Byte) : (s.setByte a v).argValue = s.argValue := rfl
@[simp] theorem setByte_resCount (s : State) (a : Nat) (v : Byte) : (s.setByte a v).resCount = s.resCount := rfl
@[simp] theorem setByte_resOffset (s : State) (a : Nat) (v : Byte) : (s.setByte a v).resOffset = s.resOffset := rfl
@[simp] theorem setByte_resEncap (s : State) (a : Nat) (v : Byte) : (s.setByte a v).resEncap = s.resEncap := rfl
@[simp] theorem setByte_resPatched (s : State) (a : Nat) (v : Byte) : (s.setByte a v).resPatched = s.resPatched := rfl
@[simp] theorem setByte_resSyncErr (s : State) (a : Nat) (v : Byte) : (s.setByte a v).resSyncErr = s.resSyncErr := rfl
@[simp] theorem setByte_resValue (s : State) (a : Nat) (v : Byte) : (s.setByte a v).resValue = s.resValue := rfl
@[simp] theorem setByte_cntDgram (s : State) (a : Nat) (v : Byte) : (s.setByte a v).cntDgram = s.cntDgram := rfl
@[simp] theorem setByte_cntPkt (s : State) (a : Nat) (v : Byte) : (s.setByte a v).cntPkt = s.cntPkt := rfl
@[simp] theorem setByte_cntPatch (s : State) (a : Nat) (v : Byte) : (s.setByte a v).cntPatch = s.cntPatch := rfl
@[simp] theorem setByte_cntSyncErr (s : State) (a : Nat) (v : Byte) : (s.setByte a v).cntSyncErr = s.cntSyncErr := rfl
@[simp] theorem setByte_patchCount (s : State) (a : Nat) (v : Byte) : (s.setByte a v).patchCount = s.patchCount := rfl
@[simp] theorem setByte_pt (s : State) (a : Nat) (v : Byte) : (s.setByte a v).pt = s.pt := rfl
@[simp] theorem setByte_buf (s : State) (a : Nat) (v : Byte) : (s.setByte a v).buf = Memory.set a v s.buf := rfl
@[simp] theorem setByte_resets (s : State) (a : Nat) (v : Byte) : (s.setByte a v).resets = s.resets := rfl
@[simp] theorem setByte_draws (s : State) (a : Nat) (v : Byte) : (s.setByte a v).draws = s.draws := rfl
@[simp] theorem setByte_hostProgram (s : State) (a : Nat) (v : Byte) : (s.setByte a v).hostProgram = s.hostProgram := rfl
@[simp] theorem setByte_schedule (s : State) (a : Nat) (v : Byte) : (s.setByte a v).schedule = s.schedule := rfl
@[simp] theorem setByte_observed (s : State) (a : Nat) (v : Byte) : (s.setByte a v).observed = s.observed := rfl
@[simp] theorem setByte_members (s : State) (a : Nat) (v : Byte) : (s.setByte a v).members = s.members := rfl

@[simp] theorem popTurn_lock (s : State) : (s.popTurn).lock = s.lock := rfl
@[simp] theorem popTurn_busy (s : State) : (s.popTurn).busy = s.busy := rfl
@[simp] theorem popTurn_done (s : State) : (s.popTurn).done = s.done := rfl
@[simp] theorem popTurn_err (s : State) : (s.popTurn).err = s.err := rfl
@[simp] theorem popTurn_latchedCmd (s : State) : (s.popTurn).latchedCmd = s.latchedCmd := rfl
@[simp] theorem popTurn_length (s : State) : (s.popTurn).length = s.length := rfl
@[simp] theorem popTurn_argOffset (s : State) : (s.popTurn).argOffset = s.argOffset := rfl
@[simp] theorem popTurn_argCount (s : State) : (s.popTurn).argCount = s.argCount := rfl
@[simp] theorem popTurn_argValue (s : State) : (s.popTurn).argValue = s.argValue := rfl
@[simp] theorem popTurn_resCount (s : State) : (s.popTurn).resCount = s.resCount := rfl
@[simp] theorem popTurn_resOffset (s : State) : (s.popTurn).resOffset = s.resOffset := rfl
@[simp] theorem popTurn_resEncap (s : State) : (s.popTurn).resEncap = s.resEncap := rfl
@[simp] theorem popTurn_resPatched (s : State) : (s.popTurn).resPatched = s.resPatched := rfl
@[simp] theorem popTurn_resSyncErr (s : State) : (s.popTurn).resSyncErr = s.resSyncErr := rfl
@[simp] theorem popTurn_resValue (s : State) : (s.popTurn).resValue = s.resValue := rfl
@[simp] theorem popTurn_cntDgram (s : State) : (s.popTurn).cntDgram = s.cntDgram := rfl
@[simp] theorem popTurn_cntPkt (s : State) : (s.popTurn).cntPkt = s.cntPkt := rfl
@[simp] theorem popTurn_cntPatch (s : State) : (s.popTurn).cntPatch = s.cntPatch := rfl
@[simp] theorem popTurn_cntSyncErr (s : State) : (s.popTurn).cntSyncErr = s.cntSyncErr := rfl
@[simp] theorem popTurn_patchCount (s : State) : (s.popTurn).patchCount = s.patchCount := rfl
@[simp] theorem popTurn_pt (s : State) : (s.popTurn).pt = s.pt := rfl
@[simp] theorem popTurn_buf (s : State) : (s.popTurn).buf = s.buf := rfl
@[simp] theorem popTurn_resets (s : State) : (s.popTurn).resets = s.resets := rfl
@[simp] theorem popTurn_draws (s : State) : (s.popTurn).draws = s.draws := rfl
@[simp] theorem popTurn_hostProgram (s : State) : (s.popTurn).hostProgram = s.hostProgram := rfl
@[simp] theorem popTurn_schedule (s : State) : (s.popTurn).schedule = s.schedule.tail := rfl
@[simp] theorem popTurn_observed (s : State) : (s.popTurn).observed = s.observed := rfl
@[simp] theorem popTurn_byteAt (s : State) (a : Nat) : (s.popTurn).byteAt a = s.byteAt a := rfl
@[simp] theorem popTurn_members (s : State) : (s.popTurn).members = s.members := rfl

@[simp] theorem writeCtrl_lock (w : Word) (s : State) : (writeCtrl w s).lock = (s.lock || w.getLsbD 0) := rfl
@[simp] theorem writeCtrl_busy (w : Word) (s : State) : (writeCtrl w s).busy = s.busy := rfl
@[simp] theorem writeCtrl_done (w : Word) (s : State) : (writeCtrl w s).done = s.done := rfl
@[simp] theorem writeCtrl_err (w : Word) (s : State) : (writeCtrl w s).err = s.err := rfl
@[simp] theorem writeCtrl_latchedCmd (w : Word) (s : State) : (writeCtrl w s).latchedCmd = s.latchedCmd := rfl
@[simp] theorem writeCtrl_length (w : Word) (s : State) : (writeCtrl w s).length = s.length := rfl
@[simp] theorem writeCtrl_argOffset (w : Word) (s : State) : (writeCtrl w s).argOffset = s.argOffset := rfl
@[simp] theorem writeCtrl_argCount (w : Word) (s : State) : (writeCtrl w s).argCount = s.argCount := rfl
@[simp] theorem writeCtrl_argValue (w : Word) (s : State) : (writeCtrl w s).argValue = s.argValue := rfl
@[simp] theorem writeCtrl_resCount (w : Word) (s : State) : (writeCtrl w s).resCount = s.resCount := rfl
@[simp] theorem writeCtrl_resOffset (w : Word) (s : State) : (writeCtrl w s).resOffset = s.resOffset := rfl
@[simp] theorem writeCtrl_resEncap (w : Word) (s : State) : (writeCtrl w s).resEncap = s.resEncap := rfl
@[simp] theorem writeCtrl_resPatched (w : Word) (s : State) : (writeCtrl w s).resPatched = s.resPatched := rfl
@[simp] theorem writeCtrl_resSyncErr (w : Word) (s : State) : (writeCtrl w s).resSyncErr = s.resSyncErr := rfl
@[simp] theorem writeCtrl_resValue (w : Word) (s : State) : (writeCtrl w s).resValue = s.resValue := rfl
@[simp] theorem writeCtrl_cntDgram (w : Word) (s : State) : (writeCtrl w s).cntDgram = s.cntDgram := rfl
@[simp] theorem writeCtrl_cntPkt (w : Word) (s : State) : (writeCtrl w s).cntPkt = s.cntPkt := rfl
@[simp] theorem writeCtrl_cntPatch (w : Word) (s : State) : (writeCtrl w s).cntPatch = s.cntPatch := rfl
@[simp] theorem writeCtrl_cntSyncErr (w : Word) (s : State) : (writeCtrl w s).cntSyncErr = s.cntSyncErr := rfl
@[simp] theorem writeCtrl_patchCount (w : Word) (s : State) : (writeCtrl w s).patchCount = s.patchCount := rfl
@[simp] theorem writeCtrl_pt (w : Word) (s : State) : (writeCtrl w s).pt = s.pt := rfl
@[simp] theorem writeCtrl_buf (w : Word) (s : State) : (writeCtrl w s).buf = s.buf := rfl
@[simp] theorem writeCtrl_resets (w : Word) (s : State) : (writeCtrl w s).resets = s.resets := rfl
@[simp] theorem writeCtrl_draws (w : Word) (s : State) : (writeCtrl w s).draws = s.draws := rfl
@[simp] theorem writeCtrl_hostProgram (w : Word) (s : State) : (writeCtrl w s).hostProgram = s.hostProgram := rfl
@[simp] theorem writeCtrl_schedule (w : Word) (s : State) : (writeCtrl w s).schedule = s.schedule := rfl
@[simp] theorem writeCtrl_observed (w : Word) (s : State) : (writeCtrl w s).observed = s.observed := rfl
@[simp] theorem writeCtrl_byteAt (w : Word) (s : State) (a : Nat) : (writeCtrl w s).byteAt a = s.byteAt a := rfl
@[simp] theorem writeCtrl_members (w : Word) (s : State) : (writeCtrl w s).members = s.members := rfl

@[simp] theorem writeErr_lock (w : Word) (s : State) : (writeErr w s).lock = s.lock := rfl
@[simp] theorem writeErr_busy (w : Word) (s : State) : (writeErr w s).busy = s.busy := rfl
@[simp] theorem writeErr_done (w : Word) (s : State) : (writeErr w s).done = s.done := rfl
@[simp] theorem writeErr_err (w : Word) (s : State) : (writeErr w s).err = clearedErr w s.err := rfl
@[simp] theorem writeErr_latchedCmd (w : Word) (s : State) : (writeErr w s).latchedCmd = s.latchedCmd := rfl
@[simp] theorem writeErr_length (w : Word) (s : State) : (writeErr w s).length = s.length := rfl
@[simp] theorem writeErr_argOffset (w : Word) (s : State) : (writeErr w s).argOffset = s.argOffset := rfl
@[simp] theorem writeErr_argCount (w : Word) (s : State) : (writeErr w s).argCount = s.argCount := rfl
@[simp] theorem writeErr_argValue (w : Word) (s : State) : (writeErr w s).argValue = s.argValue := rfl
@[simp] theorem writeErr_resCount (w : Word) (s : State) : (writeErr w s).resCount = s.resCount := rfl
@[simp] theorem writeErr_resOffset (w : Word) (s : State) : (writeErr w s).resOffset = s.resOffset := rfl
@[simp] theorem writeErr_resEncap (w : Word) (s : State) : (writeErr w s).resEncap = s.resEncap := rfl
@[simp] theorem writeErr_resPatched (w : Word) (s : State) : (writeErr w s).resPatched = s.resPatched := rfl
@[simp] theorem writeErr_resSyncErr (w : Word) (s : State) : (writeErr w s).resSyncErr = s.resSyncErr := rfl
@[simp] theorem writeErr_resValue (w : Word) (s : State) : (writeErr w s).resValue = s.resValue := rfl
@[simp] theorem writeErr_cntDgram (w : Word) (s : State) : (writeErr w s).cntDgram = s.cntDgram := rfl
@[simp] theorem writeErr_cntPkt (w : Word) (s : State) : (writeErr w s).cntPkt = s.cntPkt := rfl
@[simp] theorem writeErr_cntPatch (w : Word) (s : State) : (writeErr w s).cntPatch = s.cntPatch := rfl
@[simp] theorem writeErr_cntSyncErr (w : Word) (s : State) : (writeErr w s).cntSyncErr = s.cntSyncErr := rfl
@[simp] theorem writeErr_patchCount (w : Word) (s : State) : (writeErr w s).patchCount = s.patchCount := rfl
@[simp] theorem writeErr_pt (w : Word) (s : State) : (writeErr w s).pt = s.pt := rfl
@[simp] theorem writeErr_buf (w : Word) (s : State) : (writeErr w s).buf = s.buf := rfl
@[simp] theorem writeErr_resets (w : Word) (s : State) : (writeErr w s).resets = s.resets := rfl
@[simp] theorem writeErr_draws (w : Word) (s : State) : (writeErr w s).draws = s.draws := rfl
@[simp] theorem writeErr_hostProgram (w : Word) (s : State) : (writeErr w s).hostProgram = s.hostProgram := rfl
@[simp] theorem writeErr_schedule (w : Word) (s : State) : (writeErr w s).schedule = s.schedule := rfl
@[simp] theorem writeErr_observed (w : Word) (s : State) : (writeErr w s).observed = s.observed := rfl
@[simp] theorem writeErr_byteAt (w : Word) (s : State) (a : Nat) : (writeErr w s).byteAt a = s.byteAt a := rfl
@[simp] theorem writeErr_members (w : Word) (s : State) : (writeErr w s).members = s.members := rfl

@[simp] theorem writeResolved_lock (n : Nat) (s : State) : (writeResolved n s).lock = s.lock := rfl
@[simp] theorem writeResolved_busy (n : Nat) (s : State) : (writeResolved n s).busy = s.busy := rfl
@[simp] theorem writeResolved_done (n : Nat) (s : State) : (writeResolved n s).done = s.done := rfl
@[simp] theorem writeResolved_err (n : Nat) (s : State) : (writeResolved n s).err = s.err := rfl
@[simp] theorem writeResolved_latchedCmd (n : Nat) (s : State) : (writeResolved n s).latchedCmd = s.latchedCmd := rfl
@[simp] theorem writeResolved_length (n : Nat) (s : State) : (writeResolved n s).length = s.length := rfl
@[simp] theorem writeResolved_argOffset (n : Nat) (s : State) : (writeResolved n s).argOffset = s.argOffset := rfl
@[simp] theorem writeResolved_argCount (n : Nat) (s : State) : (writeResolved n s).argCount = s.argCount := rfl
@[simp] theorem writeResolved_argValue (n : Nat) (s : State) : (writeResolved n s).argValue = s.argValue := rfl
@[simp] theorem writeResolved_resCount (n : Nat) (s : State) : (writeResolved n s).resCount = BitVec.ofNat 16 (packetCount n) := rfl
@[simp] theorem writeResolved_resOffset (n : Nat) (s : State) : (writeResolved n s).resOffset = BitVec.ofNat 16 (prefixOffset n) := rfl
@[simp] theorem writeResolved_resEncap (n : Nat) (s : State) : (writeResolved n s).resEncap = encapClass (prefixOffset n) := rfl
@[simp] theorem writeResolved_resPatched (n : Nat) (s : State) : (writeResolved n s).resPatched = s.resPatched := rfl
@[simp] theorem writeResolved_resSyncErr (n : Nat) (s : State) : (writeResolved n s).resSyncErr = s.resSyncErr := rfl
@[simp] theorem writeResolved_resValue (n : Nat) (s : State) : (writeResolved n s).resValue = s.resValue := rfl
@[simp] theorem writeResolved_cntDgram (n : Nat) (s : State) : (writeResolved n s).cntDgram = s.cntDgram := rfl
@[simp] theorem writeResolved_cntPkt (n : Nat) (s : State) : (writeResolved n s).cntPkt = s.cntPkt := rfl
@[simp] theorem writeResolved_cntPatch (n : Nat) (s : State) : (writeResolved n s).cntPatch = s.cntPatch := rfl
@[simp] theorem writeResolved_cntSyncErr (n : Nat) (s : State) : (writeResolved n s).cntSyncErr = s.cntSyncErr := rfl
@[simp] theorem writeResolved_patchCount (n : Nat) (s : State) : (writeResolved n s).patchCount = s.patchCount := rfl
@[simp] theorem writeResolved_pt (n : Nat) (s : State) : (writeResolved n s).pt = s.pt := rfl
@[simp] theorem writeResolved_buf (n : Nat) (s : State) : (writeResolved n s).buf = s.buf := rfl
@[simp] theorem writeResolved_resets (n : Nat) (s : State) : (writeResolved n s).resets = s.resets := rfl
@[simp] theorem writeResolved_draws (n : Nat) (s : State) : (writeResolved n s).draws = s.draws := rfl
@[simp] theorem writeResolved_hostProgram (n : Nat) (s : State) : (writeResolved n s).hostProgram = s.hostProgram := rfl
@[simp] theorem writeResolved_schedule (n : Nat) (s : State) : (writeResolved n s).schedule = s.schedule := rfl
@[simp] theorem writeResolved_observed (n : Nat) (s : State) : (writeResolved n s).observed = s.observed := rfl
@[simp] theorem writeResolved_byteAt (n : Nat) (s : State) (a : Nat) : (writeResolved n s).byteAt a = s.byteAt a := rfl
@[simp] theorem writeResolved_members (n : Nat) (s : State) : (writeResolved n s).members = s.members := rfl

@[simp] theorem writeScanned_lock (n : Nat) (r : Scanned) : (writeScanned n r).lock = r.state.lock := rfl
@[simp] theorem writeScanned_busy (n : Nat) (r : Scanned) : (writeScanned n r).busy = r.state.busy := rfl
@[simp] theorem writeScanned_done (n : Nat) (r : Scanned) : (writeScanned n r).done = r.state.done := rfl
@[simp] theorem writeScanned_err (n : Nat) (r : Scanned) : (writeScanned n r).err = r.state.err := rfl
@[simp] theorem writeScanned_latchedCmd (n : Nat) (r : Scanned) : (writeScanned n r).latchedCmd = r.state.latchedCmd := rfl
@[simp] theorem writeScanned_length (n : Nat) (r : Scanned) : (writeScanned n r).length = r.state.length := rfl
@[simp] theorem writeScanned_argOffset (n : Nat) (r : Scanned) : (writeScanned n r).argOffset = r.state.argOffset := rfl
@[simp] theorem writeScanned_argCount (n : Nat) (r : Scanned) : (writeScanned n r).argCount = r.state.argCount := rfl
@[simp] theorem writeScanned_argValue (n : Nat) (r : Scanned) : (writeScanned n r).argValue = r.state.argValue := rfl
@[simp] theorem writeScanned_resCount (n : Nat) (r : Scanned) : (writeScanned n r).resCount = r.state.resCount := rfl
@[simp] theorem writeScanned_resOffset (n : Nat) (r : Scanned) : (writeScanned n r).resOffset = r.state.resOffset := rfl
@[simp] theorem writeScanned_resEncap (n : Nat) (r : Scanned) : (writeScanned n r).resEncap = r.state.resEncap := rfl
@[simp] theorem writeScanned_resPatched (n : Nat) (r : Scanned) : (writeScanned n r).resPatched = BitVec.ofNat 16 r.patched := rfl
@[simp] theorem writeScanned_resSyncErr (n : Nat) (r : Scanned) : (writeScanned n r).resSyncErr = BitVec.ofNat 16 r.syncErr := rfl
@[simp] theorem writeScanned_resValue (n : Nat) (r : Scanned) : (writeScanned n r).resValue = r.state.resValue := rfl
@[simp] theorem writeScanned_cntDgram (n : Nat) (r : Scanned) : (writeScanned n r).cntDgram = r.state.cntDgram := rfl
@[simp] theorem writeScanned_cntPkt (n : Nat) (r : Scanned) : (writeScanned n r).cntPkt = satAdd r.state.cntPkt n := rfl
@[simp] theorem writeScanned_cntPatch (n : Nat) (r : Scanned) : (writeScanned n r).cntPatch = satAdd r.state.cntPatch r.patched := rfl
@[simp] theorem writeScanned_cntSyncErr (n : Nat) (r : Scanned) : (writeScanned n r).cntSyncErr = satAdd r.state.cntSyncErr r.syncErr := rfl
@[simp] theorem writeScanned_patchCount (n : Nat) (r : Scanned) : (writeScanned n r).patchCount = r.state.patchCount := rfl
@[simp] theorem writeScanned_pt (n : Nat) (r : Scanned) : (writeScanned n r).pt = r.state.pt := rfl
@[simp] theorem writeScanned_buf (n : Nat) (r : Scanned) : (writeScanned n r).buf = r.state.buf := rfl
@[simp] theorem writeScanned_resets (n : Nat) (r : Scanned) : (writeScanned n r).resets = r.state.resets := rfl
@[simp] theorem writeScanned_draws (n : Nat) (r : Scanned) : (writeScanned n r).draws = r.state.draws := rfl
@[simp] theorem writeScanned_hostProgram (n : Nat) (r : Scanned) : (writeScanned n r).hostProgram = r.state.hostProgram := rfl
@[simp] theorem writeScanned_schedule (n : Nat) (r : Scanned) : (writeScanned n r).schedule = r.state.schedule := rfl
@[simp] theorem writeScanned_observed (n : Nat) (r : Scanned) : (writeScanned n r).observed = r.state.observed := rfl
@[simp] theorem writeScanned_byteAt (n : Nat) (r : Scanned) (a : Nat) : (writeScanned n r).byteAt a = r.state.byteAt a := rfl
@[simp] theorem writeScanned_members (n : Nat) (r : Scanned) : (writeScanned n r).members = r.state.members := rfl

end Sys2Proof.Machine
end

