-- ==== Sys2Proof/Laws/Memory.lean ====
section
/-! SUPPORT. The laws of the buffer: a read after a write to the same place gives the value written, a write leaves every
other place alone, and the canonical form of the stored bytes is kept. -/

namespace Sys2Proof.Machine

@[simp] theorem Memory.get?_set_self (a : Nat) (v : Byte) (m : Memory) : Memory.get? a (Memory.set a v m) = some v := by
  induction m with
  | nil => simp [Memory.set, Memory.get?]
  | cons c rest ih =>
    obtain ⟨b, w⟩ := c
    simp only [Memory.set]
    split
    · simp [Memory.get?]
    · split
      · simp [Memory.get?]
      · simp [Memory.get?, *]

theorem Memory.get?_set_other {a c : Nat} (h : c ≠ a) (v : Byte) (m : Memory) :
    Memory.get? c (Memory.set a v m) = Memory.get? c m := by
  induction m with
  | nil => simp [Memory.set, Memory.get?, h]
  | cons d rest ih =>
    obtain ⟨b, w⟩ := d
    simp only [Memory.set]
    split
    · simp [Memory.get?, h]
    · split
      · next hab => subst hab; simp [Memory.get?, h]
      · simp only [Memory.get?, ih]

/-- Every address of the memory after a write is the written one or was there before. -/
theorem Memory.mem_set {a : Nat} {v : Byte} {m : Memory} {c : Host.Cell} (h : c ∈ Memory.set a v m) :
    c = (a, v) ∨ c ∈ m := by
  induction m with
  | nil => simpa [Memory.set] using h
  | cons d rest ih =>
    obtain ⟨b, w⟩ := d
    simp only [Memory.set] at h
    split at h
    · simpa using h
    · split at h
      · rcases List.mem_cons.1 h with h | h
        · exact .inl h
        · exact .inr (List.mem_cons_of_mem _ h)
      · rcases List.mem_cons.1 h with h | h
        · exact .inr (h ▸ List.mem_cons_self)
        · exact (ih h).imp_right (List.mem_cons_of_mem _)

/-- A write to an address of the buffer keeps the canonical form. -/
theorem Memory.set_wf {a : Nat} (ha : a < 1400) (v : Byte) {m : Memory} (h : Memory.wf m) :
    Memory.wf (Memory.set a v m) := by
  obtain ⟨hsort, hbound⟩ := h
  refine ⟨?_, fun c hc => ?_⟩
  · clear hbound
    induction m with
    | nil => simp [Memory.set]
    | cons d rest ih =>
      obtain ⟨b, w⟩ := d
      obtain ⟨hb, hrest⟩ := List.pairwise_cons.1 hsort
      simp only [Memory.set]
      split
      · next hab =>
        refine List.pairwise_cons.2 ⟨fun c hc => ?_, hsort⟩
        rcases List.mem_cons.1 hc with hc | hc
        · subst hc; exact hab
        · exact Nat.lt_trans hab (hb c hc)
      · split
        · next hab => subst hab; exact List.pairwise_cons.2 ⟨hb, hrest⟩
        · refine List.pairwise_cons.2 ⟨fun c hc => ?_, ih hrest⟩
          rcases Memory.mem_set hc with hc | hc
          · subst hc; show b < a; omega
          · exact hb c hc
  · rcases Memory.mem_set hc with hc | hc
    · subst hc; exact ha
    · exact hbound c hc

@[simp] theorem byteAt_setByte_self (s : State) (a : Nat) (v : Byte) : (s.setByte a v).byteAt a = v := by
  simp [State.byteAt, State.setByte]

theorem byteAt_setByte_other (s : State) {a c : Nat} (h : c ≠ a) (v : Byte) :
    (s.setByte a v).byteAt c = s.byteAt c := by
  simp [State.byteAt, State.setByte, Memory.get?_set_other h]

/-- BUF[c] depends on the stored bytes and the number of the last reset only. -/
theorem byteAt_congr {s t : State} (hb : t.buf = s.buf) (hr : t.resets = s.resets) (c : Nat) :
    t.byteAt c = s.byteAt c := by
  simp [State.byteAt, hb, hr]

/-- Inside the buffer MemRead gives the byte (R39). -/
theorem memRead_inside {a : Nat} (h : a < 1400) (s : State) : memRead a s = .ok (s.byteAt a) := if_pos h

/-- Inside the buffer MemWrite stores the byte (R39). -/
theorem memWrite_inside {a : Nat} (h : a < 1400) (v : Byte) (s : State) : memWrite a v s = .ok (s.setByte a v) := if_pos h

end Sys2Proof.Machine
end

