-- ==== Sys2Proof/Laws/Codec.lean ====
section
/-! SUPPORT. What the codec functions answer inside the buffer, and their bytes as numbers (R75, R76, R77). -/

namespace Sys2Proof.Machine

theorem and_low5_toNat (b : Byte) : (b &&& 0x1F#8).toNat = b.toNat % 32 := by
  rw [BitVec.toNat_and]
  exact Nat.and_two_pow_sub_one_eq_mod _ 5

theorem and_high3_toNat : ∀ b : Byte, (b &&& 0xE0#8).toNat = (b.toNat / 32) <<< 5 := by decide

theorem pidField_toNat (b1 b2 : Byte) : (pidField b1 b2).toNat = b1.toNat % 32 * 256 + b2.toNat := by
  have h1 := b1.isLt
  have h2 := b2.isLt
  rw [pidField, BitVec.toNat_or, BitVec.toNat_shiftLeft, BitVec.toNat_setWidth, BitVec.toNat_setWidth, and_low5_toNat,
    Nat.mod_eq_of_lt (a := b2.toNat) (by omega), Nat.mod_eq_of_lt (a := b1.toNat % 32) (by omega),
    Nat.mod_eq_of_lt (by rw [Nat.shiftLeft_eq]; omega), ← Nat.shiftLeft_add_eq_or_of_lt h2, Nat.shiftLeft_eq]

theorem pidLowByte_toNat (q : Pid) : (pidLowByte q).toNat = q.toNat % 256 := by
  simp [pidLowByte]

theorem pidHighByte_toNat (b1 : Byte) (q : Pid) :
    (pidHighByte b1 q).toNat = b1.toNat / 32 * 32 + q.toNat / 256 := by
  have hq := q.isLt
  rw [pidHighByte, BitVec.toNat_or, and_high3_toNat, BitVec.toNat_setWidth, BitVec.extractLsb'_toNat,
    Nat.shiftRight_eq_div_pow, Nat.mod_eq_of_lt (a := q.toNat / 2 ^ 8 % 2 ^ 5) (by omega),
    ← Nat.shiftLeft_add_eq_or_of_lt (by omega), Nat.shiftLeft_eq]
  omega

/-- Reading the PID bits of the bytes write_pid leaves gives the PID written (R77). -/
theorem pidField_written (b1 : Byte) (q : Pid) : pidField (pidHighByte b1 q) (pidLowByte q) = q := by
  apply BitVec.eq_of_toNat_eq
  have hq := q.isLt
  rw [pidField_toNat, pidHighByte_toNat, pidLowByte_toNat]
  omega

theorem pidOf_inside {o : Nat} (h : o + 2 < 1400) (s : State) :
    pidOf o s = .ok (pidField (s.byteAt (o + 1)) (s.byteAt (o + 2))) := by
  simp [pidOf, memRead_inside (show o + 1 < 1400 by omega), memRead_inside h, bind, Except.bind, pure, Except.pure]

theorem synced_inside {o : Nat} (h : o < 1400) (s : State) : synced o s = .ok (s.byteAt o == (0x47 : Byte)) := by
  simp [synced, memRead_inside h, bind, Except.bind, pure, Except.pure]

/-- The state write_pid leaves (R77). -/
def withPid (o p : Nat) (s : State) : State :=
  (s.setByte (o + 1) (pidHighByte (s.byteAt (o + 1)) (BitVec.ofNat 13 p))).setByte (o + 2)
    (pidLowByte (BitVec.ofNat 13 p))

theorem writePid_inside {o : Nat} (h : o + 2 < 1400) (p : Nat) (s : State) : writePid o p s = .ok (withPid o p s) := by
  simp [writePid, withPid, memRead_inside (show o + 1 < 1400 by omega), memWrite_inside (show o + 1 < 1400 by omega),
    memWrite_inside h, bind, Except.bind]

theorem withPid_high (o p : Nat) (s : State) :
    (withPid o p s).byteAt (o + 1) = pidHighByte (s.byteAt (o + 1)) (BitVec.ofNat 13 p) := by
  simp [withPid, byteAt_setByte_other _ (show o + 1 ≠ o + 2 by omega)]

theorem withPid_low (o p : Nat) (s : State) : (withPid o p s).byteAt (o + 2) = pidLowByte (BitVec.ofNat 13 p) := by
  simp [withPid]

theorem withPid_other {o a : Nat} (h1 : a ≠ o + 1) (h2 : a ≠ o + 2) (p : Nat) (s : State) :
    (withPid o p s).byteAt a = s.byteAt a := by
  simp [withPid, byteAt_setByte_other _ h1, byteAt_setByte_other _ h2]

/-- write_pid changes the stored bytes only. -/
theorem withPid_frame (o p : Nat) (s : State) : withPid o p s = { s with buf := (withPid o p s).buf } := rfl

theorem withPid_wf {o : Nat} (h : o + 2 < 1400) (p : Nat) {s : State} (hw : Memory.wf s.buf) :
    Memory.wf (withPid o p s).buf :=
  Memory.set_wf h _ (Memory.set_wf (by omega) _ hw)

/-- The value operand is VAL modulo 2^13 (R60). -/
theorem valueOp_toNat (s : State) : s.valueOp.toNat = s.argValue.toNat % 8192 := by
  have := Nat.and_two_pow_sub_one_eq_mod s.argValue.toNat 13
  rw [State.valueOp, BitVec.toNat_setWidth, BitVec.toNat_and]
  simp_all

end Sys2Proof.Machine
end

