-- ==== Sys2Proof/Laws/Scanner.lean ====
section
/-! SUPPORT. What the scan answers when its slices lie in the buffer: one pure function per slice, folded over the slices,
with its frame (R89, R92). -/

namespace Sys2Proof.Machine

/-- What one slice in the buffer leaves. -/
def sliceResult (a : Nat) (r : Scanned) : Scanned :=
  if r.state.byteAt a = 0x47 then
    if r.state.member (pidField (r.state.byteAt (a + 1)) (r.state.byteAt (a + 2))) then
      { r with state := withPid a 8191 r.state, patched := r.patched + 1 }
    else r
  else { r with syncErr := r.syncErr + 1 }

/-- What n slices in the buffer leave. -/
def slicesResult (a : Nat) : Nat → Scanned → Scanned
  | 0, r => r
  | n + 1, r => slicesResult (a + 188) n (sliceResult a r)

theorem scanSlice_inside {a : Nat} (h : a + 188 ≤ 1400) (r : Scanned) : scanSlice a r = .ok (sliceResult a r) := by
  simp only [scanSlice, synced_inside (show a < 1400 by omega), pidOf_inside (show a + 2 < 1400 by omega),
    writePid_inside (show a + 2 < 1400 by omega), bind, Except.bind, pure, Except.pure, sliceResult, beq_iff_eq]
  repeat' split
  all_goals rfl

theorem scanFrom_inside {a n : Nat} (h : a + 188 * n ≤ 1400) (r : Scanned) :
    scanFrom a n r = .ok (slicesResult a n r) := by
  induction n generalizing a r with
  | zero => rfl
  | succ n ih =>
    simp only [scanFrom, slicesResult, scanSlice_inside (show a + 188 ≤ 1400 by omega), bind, Except.bind,
      Config.tsPktLen]
    exact ih (by omega) _

/-- One slice changes the stored bytes only. -/
theorem sliceResult_frame (a : Nat) (r : Scanned) :
    (sliceResult a r).state = { r.state with buf := (sliceResult a r).state.buf } := by
  unfold sliceResult
  split
  · split
    · exact withPid_frame _ _ _
    · rfl
  · rfl

/-- One slice changes bytes a + 1 and a + 2 at most. -/
theorem sliceResult_other {a c : Nat} (h1 : c ≠ a + 1) (h2 : c ≠ a + 2) (r : Scanned) :
    (sliceResult a r).state.byteAt c = r.state.byteAt c := by
  unfold sliceResult
  split
  · split
    · exact withPid_other h1 h2 _ _
    · rfl
  · rfl

/-- A slice adds one to at most one of the two counts. -/
theorem sliceResult_counts (a : Nat) (r : Scanned) :
    (sliceResult a r).patched + (sliceResult a r).syncErr ≤ r.patched + r.syncErr + 1 := by
  unfold sliceResult
  split
  · split
    · show r.patched + 1 + r.syncErr ≤ _; omega
    · omega
  · show r.patched + (r.syncErr + 1) ≤ _; omega

theorem sliceResult_wf {a : Nat} (h : a + 188 ≤ 1400) {r : Scanned} (hw : Memory.wf r.state.buf) :
    Memory.wf (sliceResult a r).state.buf := by
  unfold sliceResult
  split
  · split
    · exact withPid_wf (by omega) _ hw
    · exact hw
  · exact hw

/-- Membership depends on the table and its count only (R87). -/
theorem member_congr {s t : State} (hp : t.pt = s.pt) (hn : t.patchCount = s.patchCount) (p : Pid) :
    t.member p = s.member p := by
  simp [State.member, State.members, hp, hn]

theorem slicesResult_frame (a n : Nat) (r : Scanned) :
    (slicesResult a n r).state = { r.state with buf := (slicesResult a n r).state.buf } := by
  induction n generalizing a r with
  | zero => rfl
  | succ n ih =>
    rw [slicesResult, ih, sliceResult_frame a r]

/-- Bytes outside the slices keep their values (R92). -/
theorem slicesResult_outside {a n c : Nat} (h : c < a ∨ a + 188 * n ≤ c) (r : Scanned) :
    (slicesResult a n r).state.byteAt c = r.state.byteAt c := by
  induction n generalizing a r with
  | zero => rfl
  | succ n ih =>
    rw [slicesResult, ih (by omega), sliceResult_other (by omega) (by omega)]

theorem slicesResult_counts (a n : Nat) (r : Scanned) :
    (slicesResult a n r).patched + (slicesResult a n r).syncErr ≤ r.patched + r.syncErr + n := by
  induction n generalizing a r with
  | zero => exact Nat.le_refl _
  | succ n ih =>
    have h1 := ih (a + 188) (sliceResult a r)
    have h2 := sliceResult_counts a r
    rw [slicesResult]
    omega

theorem slicesResult_wf {a n : Nat} (h : a + 188 * n ≤ 1400) {r : Scanned} (hw : Memory.wf r.state.buf) :
    Memory.wf (slicesResult a n r).state.buf := by
  induction n generalizing a r with
  | zero => exact hw
  | succ n ih => exact ih (by omega) (sliceResult_wf (by omega) hw)

/-- The state a scan starts with and its counts at 0. -/
def scanStart (s : State) : Scanned := { state := s, patched := 0, syncErr := 0 }

theorem scan_inside {a n : Nat} (h : a + 188 * n ≤ 1400) (s : State) :
    scan a n s = .ok (slicesResult a n (scanStart s)) := scanFrom_inside h _

/-- `resolve` splits the length without rest (R81). -/
theorem prefixOffset_eq (len : Nat) : prefixOffset len = len % 188 := by
  simp only [prefixOffset, packetCount, Config.tsPktLen]
  omega

theorem packetCount_eq (len : Nat) : packetCount len = len / 188 := rfl

end Sys2Proof.Machine
end

