-- ==== Sys2Proof/Laws/Commands.lean ====
section
/-! SUPPORT. Each command as one equation per case, over the pure forms of its parts; later proofs cite these and do not
unfold a meaning. -/

namespace Sys2Proof.Machine

@[simp] theorem finish_ok (s : State) : finish (.ok s) = .next s := rfl

@[simp] theorem headerFits_iff (o : Nat) : headerFits o = true ↔ o + 4 ≤ 1400 := by simp [headerFits]

@[simp] theorem lengthFits_iff (n : Nat) : lengthFits n = true ↔ n ≤ 1400 := by simp [lengthFits]

@[simp] theorem slicesFit_iff (a n : Nat) : slicesFit a n = true ↔ a + 188 * n ≤ 1400 := by simp [slicesFit]

/-- What READ_PID, WRITE_PID and IS_SYNCED leave when the window fits; what SCAN_PATCH and PROCESS leave when they run. -/
def readPidState (s : State) : State :=
  complete { s with
    resValue := (pidField (s.byteAt (s.argOffset.toNat + 1)) (s.byteAt (s.argOffset.toNat + 2))).setWidth 16 }

def writePidState (s : State) : State := complete (withPid s.argOffset.toNat s.valueOp.toNat s)

def isSyncedState (s : State) : State :=
  complete { s with resValue := if s.byteAt s.argOffset.toNat = 0x47 then 1 else 0 }

def scanPatchState (s : State) : State :=
  complete (writeScanned s.argCount.toNat (slicesResult s.argOffset.toNat s.argCount.toNat (scanStart s)))

def processState (s : State) : State :=
  complete { writeResolved s.length.toNat
      (writeScanned (s.length.toNat / 188) (slicesResult (s.length.toNat % 188) (s.length.toNat / 188) (scanStart s)))
    with cntDgram := satAdd s.cntDgram 1 }

theorem execReadPid_eq (s : State) :
    execReadPid s = if s.argOffset.toNat + 4 ≤ 1400 then .next (readPidState s) else .next (raiseErr .range s) := by
  simp only [execReadPid, State.offsetOp, headerFits_iff]
  split
  · next h =>
    simp only [pidOf_inside (show s.argOffset.toNat + 2 < 1400 by omega), bind, Except.bind, pure, Except.pure, finish_ok,
      readPidState]
  · rfl

theorem execWritePid_eq (s : State) :
    execWritePid s = if s.argOffset.toNat + 4 ≤ 1400 then .next (writePidState s) else .next (raiseErr .range s) := by
  simp only [execWritePid, State.offsetOp, headerFits_iff]
  split
  · next h =>
    simp only [writePid_inside (show s.argOffset.toNat + 2 < 1400 by omega), bind, Except.bind, pure, Except.pure,
      finish_ok, writePidState]
  · rfl

theorem execIsSynced_eq (s : State) :
    execIsSynced s = if s.argOffset.toNat + 4 ≤ 1400 then .next (isSyncedState s) else .next (raiseErr .range s) := by
  simp only [execIsSynced, State.offsetOp, headerFits_iff]
  split
  · next h =>
    simp only [synced_inside (show s.argOffset.toNat < 1400 by omega), bind, Except.bind, pure, Except.pure, finish_ok,
      isSyncedState, beq_iff_eq]
  · rfl

theorem execResolve_eq (s : State) :
    execResolve s =
      if s.length.toNat ≤ 1400 then .next (complete (writeResolved s.length.toNat s)) else .next (raiseErr .range s) := by
  simp only [execResolve, State.lengthOp, lengthFits_iff]

theorem execScanPatch_eq (s : State) :
    execScanPatch s =
      if s.lock = false then .next (raiseErr .unlocked s)
      else if s.argOffset.toNat + 188 * s.argCount.toNat ≤ 1400 then .next (scanPatchState s)
      else .next (raiseErr .range s) := by
  simp only [execScanPatch, State.offsetOp, State.countOp, slicesFit_iff, Bool.not_eq_true']
  split
  · rfl
  · split
    · next h => simp only [scan_inside h, bind, Except.bind, pure, Except.pure, finish_ok, scanPatchState]
    · rfl

theorem execProcess_eq (s : State) :
    execProcess s =
      if s.lock = false then .next (raiseErr .unlocked s)
      else if s.length.toNat ≤ 1400 then .next (processState s)
      else .next (raiseErr .range s) := by
  simp only [execProcess, State.lengthOp, lengthFits_iff, Bool.not_eq_true', prefixOffset_eq, packetCount_eq]
  split
  · rfl
  · split
    · next h =>
      simp only [scan_inside (show s.length.toNat % 188 + 188 * (s.length.toNat / 188) ≤ 1400 by omega), bind, Except.bind,
        pure, Except.pure, finish_ok, processState]
    · rfl

end Sys2Proof.Machine
end

