-- ==== Sys2Proof/Laws/HostPort.lean ====
section
/-! SUPPORT. What a host transaction and a host turn can change, said once: the frames of reads and writes. -/

namespace Sys2Proof.Machine

theorem unlessBusy_busy {s : State} (h : s.busy = true) (f : State → State) : unlessBusy f s = setErr .hazard s := by
  simp [unlessBusy, h]

theorem unlessBusy_idle {s : State} (h : s.busy = false) (f : State → State) : unlessBusy f s = f s := by
  simp [unlessBusy, h]

/-- A register read changes ERR (by BUS) or the number of draws taken, at most. -/
theorem regRd_frame (off : BitVec 12) (width : Nat) (s : State) :
    (regRd off width s).2 = { s with err := (regRd off width s).2.err, draws := (regRd off width s).2.draws } := by
  unfold regRd
  split
  · rfl
  · split <;> rfl

/-- A buffer read changes ERR (by BUS) or the number of draws taken, at most. -/
theorem bufRd_frame (a width : Nat) (s : State) :
    (bufRd a width s).2 = { s with err := (bufRd a width s).2.err, draws := (bufRd a width s).2.draws } := by
  unfold bufRd
  split
  · split <;> rfl
  · rfl

/-- A buffer write changes ERR or the stored bytes, at most. -/
theorem bufWr_frame (a width : Nat) (b : Byte) (s : State) :
    bufWr a width b s = { s with err := (bufWr a width b s).err, buf := (bufWr a width b s).buf } := by
  unfold bufWr unlessBusy
  split
  · split <;> rfl
  · rfl

/-- A buffer write keeps the canonical form of the stored bytes. -/
theorem bufWr_wf (a width : Nat) (b : Byte) {s : State} (hw : Memory.wf s.buf) : Memory.wf (bufWr a width b s).buf := by
  unfold bufWr unlessBusy
  split
  · next h =>
    split
    · exact hw
    · exact Memory.set_wf (of_decide_eq_true h).2 b hw
  · exact hw

/-- PATCH_PUSH either records CFG and no more, or appends one PID (R103). -/
theorem pushPid_cases (w : Word) (s : State) :
    (pushPid w s = setErr .cfg s ∧ (s.lock = true ∨ s.patchCount ≥ 100 ∨ w.toNat > 8191)) ∨
    (s.lock = false ∧ s.patchCount < 100 ∧ w.toNat ≤ 8191 ∧
      pushPid w s =
        { s with pt := s.pt.setIfInBounds s.patchCount (w.setWidth 13), patchCount := s.patchCount + 1 }) := by
  unfold pushPid
  split
  · next h => exact .inl ⟨rfl, by simpa using h⟩
  · next h =>
    simp only [not_or, Bool.not_eq_true, Config.patchMax] at h
    exact .inr ⟨h.1, by omega, by omega, rfl⟩

/-- A register write changes no result register, no counter, no buffer byte and nothing of the host's. -/
theorem regWr_frame (off : BitVec 12) (width : Nat) (w : Word) (s : State) :
    regWr off width w s =
      { regWr off width w s with
        resCount := s.resCount, resOffset := s.resOffset, resEncap := s.resEncap, resPatched := s.resPatched,
        resSyncErr := s.resSyncErr, resValue := s.resValue, cntDgram := s.cntDgram, cntPkt := s.cntPkt,
        cntPatch := s.cntPatch, cntSyncErr := s.cntSyncErr, buf := s.buf, resets := s.resets, draws := s.draws,
        hostProgram := s.hostProgram, schedule := s.schedule, observed := s.observed } := by
  unfold regWr
  split
  · rfl
  · next r _ =>
    cases r <;> simp only [writeReg, unlessBusy]
    case patchPush =>
      split
      · rfl
      · rcases pushPid_cases w s with ⟨h, _⟩ | ⟨_, _, _, h⟩
        · rw [h]; rfl
        · rw [h]
    all_goals repeat' split
    all_goals rfl

/-- While a command is in flight a register write changes ERR at most (R133). -/
theorem regWr_busy_frame {s : State} (h : s.busy = true) (off : BitVec 12) (width : Nat) (w : Word) :
    regWr off width w s = { s with err := (regWr off width w s).err } := by
  unfold regWr
  split
  · rfl
  · next r _ => cases r <;> simp only [writeReg, unlessBusy_busy h] <;> rfl

/-- A transaction changes no result register, no counter and nothing of the host's (log 2). -/
theorem transact_frame (t : Transaction) (s : State) :
    (transact t s).2 =
      { (transact t s).2 with
        resCount := s.resCount, resOffset := s.resOffset, resEncap := s.resEncap, resPatched := s.resPatched,
        resSyncErr := s.resSyncErr, resValue := s.resValue, cntDgram := s.cntDgram, cntPkt := s.cntPkt,
        cntPatch := s.cntPatch, cntSyncErr := s.cntSyncErr, resets := s.resets, hostProgram := s.hostProgram,
        schedule := s.schedule, observed := s.observed } := by
  cases t <;> simp only [transact]
  · rw [regRd_frame]
  · rw [regWr_frame]
  · rw [bufRd_frame]
  · rw [bufWr_frame]

/-- While a command is in flight a transaction changes ERR and the number of draws taken, at most (R133, R134). -/
theorem transact_busy_frame {s : State} (h : s.busy = true) (t : Transaction) :
    (transact t s).2 = { s with err := (transact t s).2.err, draws := (transact t s).2.draws } := by
  cases t <;> simp only [transact]
  · exact regRd_frame _ _ _
  · rw [regWr_busy_frame h]
  · exact bufRd_frame _ _ _
  · unfold bufWr
    rw [unlessBusy_busy h]
    split <;> rfl

/-- A host turn passes, or performs one transaction: the next of the program, or a STATUS read of `poll`. -/
theorem hostStep_cases (s : State) :
    (s.hostProgram = [] ∧ hostStep s = s) ∨
    (∃ t rest, s.hostProgram = .transaction t :: rest ∧ hostStep s = perform t rest s) ∨
    (∃ rest left, s.hostProgram = .poll :: rest ∧ hostStep s = perform (.regRd Reg.status.offset 4) left s) := by
  unfold hostStep
  split
  · next h => exact .inl ⟨h, rfl⟩
  · next t rest h => exact .inr (.inl ⟨t, rest, h, rfl⟩)
  · next rest h => exact .inr (.inr ⟨rest, _, h, rfl⟩)

end Sys2Proof.Machine
end

