-- ==== Sys2Proof/Laws/Step.lean ====
section
/-! SUPPORT. What a step can do, said once: which agent moved and what it did. -/

namespace Sys2Proof.Machine

/-- If a step answers a next state, the host took one turn, or the engine executed the latched command, raised ILLEGAL for
it or had no step, or reset was asserted. -/
theorem step_cases {s t : State} (h : step s = .next t) :
    (s.turn = .host ∧ t = hostStep s.popTurn) ∨
    (s.turn = .engine ∧ s.busy = true ∧ ∃ i, decode s.latchedCmd = .ok i ∧ exec i s.popTurn = .next t) ∨
    (s.turn = .engine ∧ s.busy = true ∧ (∃ e, decode s.latchedCmd = .error e) ∧ t = raiseErr .illegal s.popTurn) ∨
    (s.turn = .engine ∧ s.busy = false ∧ t = s.popTurn) ∨
    (s.turn = .reset ∧ t = resetBlock s.popTurn) := by
  unfold step move at h
  split at h
  · next hturn =>
    unfold engineStep at h
    rw [popTurn_busy, popTurn_latchedCmd] at h
    split at h
    · next hb =>
      split at h
      · next i hd => exact .inr (.inl ⟨hturn, hb, i, hd, h⟩)
      · next e hd => cases h; exact .inr (.inr (.inl ⟨hturn, hb, ⟨e, hd⟩, rfl⟩))
    · next hb => cases h; exact .inr (.inr (.inr (.inl ⟨hturn, by simpa using hb, rfl⟩)))
  · next hturn => cases h; exact .inl ⟨hturn, rfl⟩
  · next hturn => cases h; exact .inr (.inr (.inr (.inr ⟨hturn, rfl⟩)))

/-- With the schedule's head for the engine, or the schedule ended and a command in flight, the engine moves. -/
theorem turn_engine {s : State} (h : s.schedule.head? = some .engine ∨ s.schedule = [] ∧ s.busy = true) :
    s.turn = .engine := by
  unfold State.turn
  rcases h with h | ⟨h, hb⟩
  · cases hs : s.schedule with
    | nil => simp [hs] at h
    | cons x xs => simpa [hs] using h
  · simp [h, hb]

/-- With the schedule's head for the host, or the schedule ended and no command in flight, the host moves. -/
theorem turn_host {s : State} (h : s.schedule.head? = some .host ∨ s.schedule = [] ∧ s.busy = false) :
    s.turn = .host := by
  unfold State.turn
  rcases h with h | ⟨h, hb⟩
  · cases hs : s.schedule with
    | nil => simp [hs] at h
    | cons x xs => simpa [hs] using h
  · simp [h, hb]

/-- A run of one step more, of any machine, when its first step answers a next state. -/
theorem run_succ (M : Host.Core) {s t : M.State} (h : M.step s = .next t) (k : Nat) : M.run (k + 1) s = M.run k t := by
  rw [Host.Core.run.eq_2, h]

end Sys2Proof.Machine
end

