-- ==== Sys2Proof/Laws/HostDuty.lean ====
section
/-! SUPPORT. What the host's duties say, once: written bytes, the bytes a scan reads, the next transaction by whose turn it is,
one step of the poll monitor, and a machine that has come to rest. -/

namespace Sys2Proof.Machine

/-- A byte that has been written reads the same whatever the reset's draws are. -/
theorem byteAt_of_written {s : State} {a : Nat} (h : s.written a = true) (n : Nat) :
    ({ s with resets := n } : State).byteAt a = s.byteAt a := by
  unfold State.written at h
  unfold State.byteAt
  cases hg : Memory.get? a s.buf with
  | none => rw [hg] at h; cases h
  | some v => rfl

/-- A byte once written stays written under every store. -/
theorem written_setByte {s : State} {c : Nat} (h : s.written c = true) (a : Nat) (v : Byte) :
    (s.setByte a v).written c = true := by
  unfold State.written State.setByte at *
  by_cases hc : c = a
  · subst hc; simp
  · simpa [Memory.get?_set_other hc] using h

/-- A scan reads bytes 0, 1 and 2 of each of its slices and no other byte (R48). -/
theorem mem_sliceReads {start n a : Nat} :
    a ∈ sliceReads start n ↔ ∃ k < n, ∃ j < 3, a = start + 188 * k + j := by
  simp only [sliceReads, List.mem_flatMap, List.mem_range, Config.tsPktLen, List.mem_cons, List.not_mem_nil, or_false]
  constructor
  · rintro ⟨k, hk, h | h | h⟩
    · exact ⟨k, hk, 0, by omega, h⟩
    · exact ⟨k, hk, 1, by omega, h⟩
    · exact ⟨k, hk, 2, by omega, h⟩
  · rintro ⟨k, hk, j, hj, h⟩
    exact ⟨k, hk, by omega⟩

theorem nextTransaction_engine {s : State} (h : s.turn = .engine) : s.nextTransaction = none := by
  unfold State.nextTransaction; rw [h]

theorem nextTransaction_reset {s : State} (h : s.turn = .reset) : s.nextTransaction = none := by
  unfold State.nextTransaction; rw [h]

/-- On its turn the host passes, or performs the transaction that `nextTransaction` names. -/
theorem nextTransaction_host {s : State} (h : s.turn = .host) :
    (s.nextTransaction = none ∧ hostStep s.popTurn = s.popTurn) ∨
    ∃ x left, s.nextTransaction = some x ∧ hostStep s.popTurn = perform x left s.popTurn := by
  have e : s.popTurn.hostProgram = s.hostProgram := rfl
  unfold State.nextTransaction
  rw [h]
  rcases hostStep_cases s.popTurn with ⟨h1, h2⟩ | ⟨t, rest, h1, h2⟩ | ⟨rest, left, h1, h2⟩ <;> rw [e] at h1 <;> rw [h1]
  · exact .inl ⟨rfl, h2⟩
  · exact .inr ⟨_, _, rfl, h2⟩
  · exact .inr ⟨_, _, rfl, h2⟩

/-- One step of the poll monitor: nothing owed is broken now, and the rest polls on. -/
theorem pollsFor_succ {k : Nat} {owes : Bool} {s t : State} (h : step s = .next t)
    (hp : pollsFor (k + 1) owes s = true) :
    (owes = true → ∀ x, s.nextTransaction = some x → needsPoll x = false) ∧
    pollsFor k (s.nextTransaction.elim owes fun x => owesAfter x s owes) t = true := by
  simp only [pollsFor, h, Bool.and_eq_true, Bool.not_eq_true'] at hp
  refine ⟨fun ho x hx => ?_, hp.2⟩
  have := hp.1
  rw [ho, hx] at this
  simpa using this

/-- With no turn scheduled, no command in flight and nothing for the host to do, a step changes nothing (log 11). -/
theorem rest_step {s : State} (hs : s.schedule = []) (hr : s.runEnded) : step s = .next s := by
  have hpop : s.popTurn = s := by cases s; simp_all [State.popTurn]
  unfold step move
  rw [turn_host (.inr ⟨hs, hr.2⟩), hpop]
  simp only [hostStep, hr.1]

theorem rest_run {s : State} (hs : s.schedule = []) (hr : s.runEnded) (k : Nat) : Sys2Proof.core.run k s = .next s := by
  induction k with
  | zero => rfl
  | succ k ih => exact (run_succ Sys2Proof.core (rest_step hs hr) k).trans ih

theorem rest_nextTransaction {s : State} (hs : s.schedule = []) (hr : s.runEnded) : s.nextTransaction = none := by
  unfold State.nextTransaction
  rw [turn_host (.inr ⟨hs, hr.2⟩), hr.1]

theorem rest_pollsFor {s : State} (hs : s.schedule = []) (hr : s.runEnded) (k : Nat) (owes : Bool) :
    pollsFor k owes s = true := by
  induction k with
  | zero => rfl
  | succ k ih => simp [pollsFor, rest_step hs hr, rest_nextTransaction hs hr, ih]

theorem rest_nextReads {s : State} (hs : s.schedule = []) (hr : s.runEnded) : s.nextReads = [] := by
  unfold State.nextReads State.engineReads
  rw [rest_nextTransaction hs hr, turn_host (.inr ⟨hs, hr.2⟩)]

end Sys2Proof.Machine
end

