-- ==== Sys2Proof/Laws/PerInstr.lean ====
section
/-! SUPPORT. Statements for all instructions, one lemma per constructor. -/

namespace Sys2Proof.Laws.EncodedWord

/-- The command's word is legal (R61): its reserved bits are 0 and its opcode is below 8, and the decoder reads the word back
from the opcode table's numbering of its bits. -/
def Statement (i : Instr) : Prop :=
  i.wellFormed = true ∧ legalCommandWord (encode i) = true ∧ decodeTableWord 32 (encode i).toNat = some i

theorem nop : Statement .nop := by unfold Statement; decide
theorem readPid : Statement .readPid := by unfold Statement; decide
theorem writePid : Statement .writePid := by unfold Statement; decide
theorem isSynced : Statement .isSynced := by unfold Statement; decide
theorem resolve : Statement .resolve := by unfold Statement; decide
theorem member : Statement .member := by unfold Statement; decide
theorem scanPatch : Statement .scanPatch := by unfold Statement; decide
theorem process : Statement .process := by unfold Statement; decide

end Sys2Proof.Laws.EncodedWord
end

