-- ==== Sys2Proof/Tests/Slice0.lean ====
section
/-! SUPPORT. The model's own tests: the ill-formed terms WellFormed refuses, the words of R59's table decoded, and vectors of
95_test_vectors.md (each named), one step each; and for each statement with hypotheses a state that meets them. -/

open Sys2Proof Sys2Proof.Machine Sys2Proof.Spec

namespace Sys2Proof.Tests

/-- Reset with stored buffer bytes from an address up. -/
def withBytes (a : Nat) (l : List Byte) : State := { State.reset with buf := (List.range l.length).map (a + ·) |>.zip l }

/-- A Patch Set of the given members, in order, with the given lock. -/
def withSet (pids : List Pid) (lock : Bool) (s : State) : State :=
  { s with
    pt := (List.range pids.length).foldl (fun t i => t.setIfInBounds i (pids.getD i 0)) s.pt
    patchCount := pids.length
    lock := lock }

/-- What a command's next state shows. -/
def shown {α : Type} (f : State → α) : Host.Outcome State Fault Refusal → Option α
  | .next s => some (f s)
  | .fault _ => none
  | .refused _ => none

/-- The four bytes from an address. -/
def bytesAt (a : Nat) (s : State) : List Byte := [s.byteAt a, s.byteAt (a + 1), s.byteAt (a + 2), s.byteAt (a + 3)]

/-- A state with a command word in flight. -/
def inFlight (w : Word) (s : State) : State := { s with busy := true, latchedCmd := w }

/-! ## WellFormed: an ill-formed term for each check (R42, R43, R61) -/

theorem test_wf_opcode : legalCommandWord 0x00000008 = false := by decide
theorem test_wf_reserved : legalCommandWord 0x00000010 = false := by decide
theorem test_wf_legal_word : legalCommandWord 0x00000007 = true := by decide
theorem test_wf_reg_width : (Transaction.regRd 0x000 2).wellFormed = false := by decide
theorem test_wf_reg_aligned : (Transaction.regRd 0x002 4).wellFormed = false := by decide
theorem test_wf_reg_gap : (Transaction.regWr 0x058 4 0).wellFormed = false := by decide
theorem test_wf_reg_past : (Transaction.regWr 0x290 4 0).wellFormed = false := by decide
theorem test_wf_reg_last : (Transaction.regWr 0x28C 4 0).wellFormed = true := by decide
theorem test_wf_buf_width : (Transaction.bufRd 0 2).wellFormed = false := by decide
theorem test_wf_buf_past : (Transaction.bufWr 1400 1 0).wellFormed = false := by decide
theorem test_wf_instr : Instr.process.wellFormed = true := by decide

/-! ## Decode: every word of R59's table, written out from R58's fields RSV[31:4] and OP[3:0] -/

theorem test_decode_nop : decode 0b00000000000000000000000000000000 = .ok .nop := by decide
theorem test_decode_read_pid : decode 0b00000000000000000000000000000001 = .ok .readPid := by decide
theorem test_decode_write_pid : decode 0b00000000000000000000000000000010 = .ok .writePid := by decide
theorem test_decode_is_synced : decode 0b00000000000000000000000000000011 = .ok .isSynced := by decide
theorem test_decode_resolve : decode 0b00000000000000000000000000000100 = .ok .resolve := by decide
theorem test_decode_member : decode 0b00000000000000000000000000000101 = .ok .member := by decide
theorem test_decode_scan_patch : decode 0b00000000000000000000000000000110 = .ok .scanPatch := by decide
theorem test_decode_process : decode 0b00000000000000000000000000000111 = .ok .process := by decide
theorem test_decode_opcode_15 : decode 0b00000000000000000000000000001111 = .error .reservedOpcode := by decide
theorem test_decode_top_bit : decode 0b10000000000000000000000000000111 = .error .reservedBits := by decide
theorem test_decode_table_word : decodeTableWord 32 5 = some .member ∧ decodeTableWord 32 0x10 = none := by decide

/-! ## Vectors of 95_test_vectors.md -/

/-- V-CY-1: from reset, NOP leaves STATUS = 0x2. -/
theorem test_v_cy_1 : shown (·.statusWord) (step (State.reset.withFetchWord 32 0)) = some 2 := by decide
/-- V-CY-3: word 8 leaves ERR = 0x1 and STATUS = 0x6. -/
theorem test_v_cy_3 : shown (fun s => (s.errWord, s.statusWord)) (step (State.reset.withFetchWord 32 8)) = some (1, 6) := by
  decide
/-- V-CD-5: 47 A1 00 10 reads PID 0x100. -/
theorem test_v_cd_5 : shown (·.resValue) (exec .readPid (withBytes 0 [0x47, 0xA1, 0x00, 0x10])) = some 0x100 := by decide
/-- V-CD-15: o = 1396 is the last legal offset. -/
theorem test_v_cd_15 :
    shown (·.resValue) (exec .readPid { withBytes 1396 [0x47, 0x00, 0x64, 0x10] with argOffset := 1396 }) = some 0x64 := by
  decide
/-- V-CD-11: VAL = 0x0123 into 47 A0 00 55 leaves 47 A1 23 55. -/
theorem test_v_cd_11 :
    shown (bytesAt 0) (exec .writePid { withBytes 0 [0x47, 0xA0, 0x00, 0x55] with argValue := 0x0123 }) =
      some [0x47, 0xA1, 0x23, 0x55] := by decide
/-- V-CD-9: VAL = 0xFFFF is masked to 0x1FFF. -/
theorem test_v_cd_9 :
    shown (bytesAt 0) (exec .writePid { withBytes 0 [0x47, 0x40, 0x64, 0x10] with argValue := 0xFFFF }) =
      some [0x47, 0x5F, 0xFF, 0x10] := by decide
/-- V-CD-14: 0xC7 is no sync byte. -/
theorem test_v_cd_14 : shown (·.resValue) (exec .isSynced { withBytes 0 [0xC7, 0, 0, 0] with resValue := 9 }) = some 0 := by
  decide
/-- V-CD-17: o = 1397 raises RANGE and leaves RES_VALUE. -/
theorem test_v_cd_17 :
    shown (fun s => (s.resValue, s.err)) (exec .isSynced { State.reset with argOffset := 1397, resValue := 9 }) =
      some (9, 0x04) := by decide
/-- V-RS-10: 1332 resolves to 7 packets after 16 bytes, class 2. -/
theorem test_v_rs_10 :
    shown (fun s => (s.resCount, s.resOffset, s.resEncap)) (exec .resolve { State.reset with length := 1332 }) =
      some (7, 16, 2) := by decide
/-- V-RS-6: 200 resolves to 1 packet after 12 bytes, class 1. -/
theorem test_v_rs_6 :
    shown (fun s => (s.resCount, s.resOffset, s.resEncap)) (exec .resolve { State.reset with length := 200 }) =
      some (1, 12, 1) := by decide
/-- V-MB-3: 0x2064 tests 100. -/
theorem test_v_mb_3 :
    shown (·.resValue) (exec .member { withSet [100, 256] false State.reset with argValue := 0x2064 }) = some 1 := by decide
/-- V-MB-2: 8191 is no member of 100, 256. -/
theorem test_v_mb_2 :
    shown (·.resValue) (exec .member { withSet [100, 256] true State.reset with argValue := 8191 }) = some 0 := by decide
/-- V-SP-9: with 100 and 8191 members, a slice of PID 100 is patched and counted once. -/
theorem test_v_sp_9 :
    shown (fun s => (bytesAt 0 s, s.resPatched, s.resSyncErr))
      (exec .scanPatch { withSet [100, 8191] true (withBytes 0 [0x47, 0x40, 0x64, 0x10]) with argCount := 1 }) =
      some ([0x47, 0x5F, 0xFF, 0x10], 1, 0) := by decide
/-- V-SP-8: UNLOCKED wins over RANGE. -/
theorem test_v_sp_8 :
    shown (·.err) (exec .scanPatch { withSet [100] false State.reset with argOffset := 1401 }) = some 0x02 := by decide
/-- V-PR-2: one packet of PID 100 is patched; the counters take 1, 1, 1, 0. -/
theorem test_v_pr_2 :
    shown (fun s => (bytesAt 0 s, s.resCount, s.resPatched, [s.cntDgram, s.cntPkt, s.cntPatch, s.cntSyncErr]))
      (exec .process { withSet [100] true (withBytes 0 [0x47, 0x40, 0x64, 0x10]) with length := 188 }) =
      some ([0x47, 0x5F, 0xFF, 0x10], 1, 1, [1, 1, 1, 0]) := by decide
/-- V-PR-5: a length of 1401 raises RANGE and counts nothing. -/
theorem test_v_pr_5 :
    shown (fun s => (s.err, s.cntDgram)) (exec .process { withSet [100] true State.reset with length := 1401 }) =
      some (0x04, 0) := by decide
/-- The saturation row under V-SP: 0xFFFFFFFE plus 7 slices is 0xFFFFFFFF. -/
theorem test_saturation : satAdd 0xFFFFFFFE 7 = 0xFFFFFFFF := by decide
/-- V-HP-2: pushes of 8192 and 0xFFFFFFFF are rejected with CFG. -/
theorem test_v_hp_2 :
    (fun s : State => (s.patchCount, s.err)) (regWr 0x054 4 0xFFFFFFFF (regWr 0x054 4 8192 State.reset)) = (0, 0x08) := by
  decide
/-- V-HP-6: ERR = 0x21 with 0x01 written leaves 0x20. -/
theorem test_v_hp_6 : (regWr 0x010 4 1 { State.reset with err := 0x21 }).err = 0x20 := by decide
/-- V-HP-7: a misaligned read returns 0 and sets BUS. -/
theorem test_v_hp_7 : (regRd 0x002 4 State.reset).1 = 0 ∧ (regRd 0x002 4 State.reset).2.err = 0x20 := by decide
/-- V-HP-10: the upper half of a LENGTH write is discarded. -/
theorem test_v_hp_10 : (regRd 0x018 4 (regWr 0x018 4 0x12345678 State.reset)).1 = 0x00005678 := by decide
/-- V-HP-12: PARAMS reads 0xBC640578, which is 188, 100 and 1400 (R20). -/
theorem test_v_hp_12 :
    (regRd 0x004 4 State.reset).1 = 0xBC640578 ∧
    (0xBC640578#32).toNat = Config.tsPktLen * 2 ^ 24 + Config.patchMax * 2 ^ 16 + Config.bufSize := by decide
/-- R8: MAX_PKTS is floor(BUF_SIZE / TS_PKT_LEN). -/
theorem test_max_pkts : Config.maxPkts = Config.bufSize / Config.tsPktLen := by decide
/-- R65: `tshdr 12, 4196` writes 47 10 64 10 (PROG-2, packet 6 at another address). -/
theorem test_tshdr :
    (HostLine.tshdr 12 4196).expand = [bufWrite 12 0x47, bufWrite 13 0x10, bufWrite 14 0x64, bufWrite 15 0x10] := by decide
/-- R106: startup pushes in list order, then locks (PROG-1). -/
theorem test_startup : assemble (startup [100]) = [.transaction (.regWr 0x054 4 0x64), .transaction (.regWr 0x008 4 1)] := by
  decide
/-- R107: the relay cycle of a one-byte datagram. -/
theorem test_relay_cycle :
    assemble (relayCycle [0x47]) =
      [.transaction (.bufWr 0 1 0x47), .transaction (.regWr 0x018 4 1), .transaction (.regWr 0x014 4 7), .poll,
        .transaction (.regRd 0x010 4), .transaction (.bufRd 0 1)] := by decide
/-- R138, R139: a launch has not ended while the host has something to do. -/
theorem test_launch_not_ended : ¬ (launch [.poll] []).runEnded := by unfold State.runEnded; decide
/-- R139: a dropped write shows in ERR as a host that did not behave. -/
theorem test_hazard_shows : ¬ (regWr 0x018 4 5 (inFlight 0 State.reset)).hostBehaved := by
  unfold State.hostBehaved; decide

/-! ## Witnesses: states that meet the hypotheses of the statements -/

theorem witness_DecodeAndEncodeAgree : Instr.scanPatch.wellFormed = true ∧ decode 6 = .ok .scanPatch := by decide
theorem witness_IllegalWordRaisesIllegalAndNothingElse :
    (inFlight 0x8 State.reset).busy = true ∧ (inFlight 0x8 State.reset).latchedCmd.toNat % 16 ≥ 8 ∧
    (inFlight 0x10 State.reset).busy = true ∧ (inFlight 0x10 State.reset).latchedCmd.toNat / 16 ≠ 0 ∧
    (inFlight 0x7 State.reset).busy = true ∧ (inFlight 0x7 State.reset).latchedCmd.toNat % 16 < 8 ∧
    (inFlight 0x7 State.reset).latchedCmd.toNat / 16 = 0 := by decide
theorem witness_StepExecutesTheLatchedCommand :
    (inFlight 4 State.reset).busy = true ∧ decode (inFlight 4 State.reset).latchedCmd = .ok .resolve ∧
    (inFlight 4 State.reset).schedule = [] ∧
    ({ inFlight 4 State.reset with schedule := [.engine, .host] } : State).schedule.head? = some .engine := by decide
theorem witness_PlacedCommandRunsNext : decodeTableWord 32 7 = some .process := by decide
theorem witness_busy_and_idle : State.reset.busy = false ∧ (inFlight 0 State.reset).busy = true := by decide
theorem witness_CmdWriteIsAcceptedOrDropped : State.reset.busy = false ∧ (inFlight 1 State.reset).busy = true := by decide
theorem witness_AcceptedCommandCompletes :
    ({ inFlight 8 State.reset with schedule := [.host, .engine] } : State).busy = true ∧
    Turn.reset ∉ ({ inFlight 8 State.reset with schedule := [.host, .engine] } : State).schedule := by decide
theorem witness_codec_windows :
    ({ State.reset with argOffset := 1396 } : State).argOffset.toNat + 4 ≤ 1400 ∧
    ({ State.reset with argOffset := 1397 } : State).argOffset.toNat + 4 > 1400 := by decide
theorem witness_ReadPidReturnsTheHeaderPid :
    ({ State.reset with argOffset := 1396 } : State).argOffset.toNat + 4 ≤ 1400 ∧
    ({ State.reset with argOffset := 1397 } : State).argOffset.toNat + 4 > 1400 := witness_codec_windows
theorem witness_WritePidChangesOnlyThePidBits :
    ({ State.reset with argOffset := 1396 } : State).argOffset.toNat + 4 ≤ 1400 ∧
    ({ State.reset with argOffset := 1397 } : State).argOffset.toNat + 4 > 1400 ∧ 0 ≠ 1396 + 1 ∧ 0 ≠ 1396 + 2 := by decide
theorem witness_IsSyncedTestsTheSyncByte :
    ({ State.reset with argOffset := 1396 } : State).argOffset.toNat + 4 ≤ 1400 ∧
    ({ State.reset with argOffset := 1397 } : State).argOffset.toNat + 4 > 1400 := witness_codec_windows
theorem witness_ReadPidAfterWritePidGivesTheMaskedValue :
    ({ State.reset with argOffset := 1396, argValue := 0xFFFF } : State).argOffset.toNat + 4 ≤ 1400 := by decide
theorem witness_ResolveSplitsTheLength :
    ({ State.reset with length := 1400 } : State).length.toNat ≤ 1400 ∧
    ({ State.reset with length := 1401 } : State).length.toNat > 1400 := by decide
theorem witness_ResolvedPartsAddUpToTheLength :
    ({ State.reset with length := 1316 } : State).length.toNat ≤ 1400 ∧
    ({ State.reset with length := 1316 } : State).length.toNat = 188 * 7 ∧
    ({ State.reset with length := 1328 } : State).length.toNat = 188 * 7 + 12 := by decide
theorem witness_ScanPatchPatchesTheMemberSlices :
    (withSet [100] true State.reset).lock = true ∧
    ({ withSet [100] true State.reset with argOffset := 84, argCount := 7 } : State).argOffset.toNat + 188 * 7 ≤ 1400 ∧
    State.reset.lock = false ∧
    ({ withSet [100] true State.reset with argOffset := 85, argCount := 7 } : State).argOffset.toNat + 188 * 7 > 1400 := by
  decide
theorem witness_ProcessResolvesThenScans :
    (withSet [100] true State.reset).lock = true ∧
    ({ withSet [100] true State.reset with length := 1400 } : State).length.toNat ≤ 1400 ∧
    State.reset.lock = false ∧
    ({ withSet [100] true State.reset with length := 1401 } : State).length.toNat > 1400 := by decide
theorem witness_SecondScanChangesNoByte :
    ({ withSet [100, 8191] true State.reset with argCount := 2 } : State).lock = true ∧
    ({ withSet [100, 8191] true State.reset with argCount := 2 } : State).argOffset.toNat + 188 * 2 ≤ 1400 := by decide
/-- A datagram of 200 bytes with PID 100 at 12, and one whose sync byte is spoilt. -/
theorem witness_ProcessedSlicesKeepAllButThePid :
    ({ withSet [100] true (withBytes 12 [0x47, 0x00, 0x64, 0x10]) with length := 200 } : State).lock = true ∧
    ({ withSet [100] true (withBytes 12 [0x47, 0x00, 0x64, 0x10]) with length := 200 } : State).length.toNat ≤ 1400 ∧
    0 < ({ State.reset with length := 200 } : State).length.toNat / 188 ∧
    patchedAt { withSet [100] true (withBytes 12 [0x47, 0x00, 0x64, 0x10]) with length := 200 } (12 + 188 * 0) = true ∧
    patchedAt { withSet [100] true (withBytes 12 [0x48, 0x00, 0x64, 0x10]) with length := 200 } (12 + 188 * 0) = false := by
  refine ⟨by decide, by decide, by decide, ?_, by decide⟩
  rw [patchedAt, Bool.and_eq_true]
  exact ⟨by decide, decide_eq_true ⟨0, by decide, by decide⟩⟩
/-- One stored 0 and a duplicate of it: the same set of members from two tables (V-MB-7). -/
theorem witness_OnlyTheSetOfMembersMatters :
    ∀ p, isMember { State.reset with pt := State.reset.pt, patchCount := 2 } p = isMember { State.reset with patchCount := 1 } p := by
  intro p
  have h0 : ∀ i : Fin 100, (State.reset.pt[i.val]).toNat = 0 := fun i => by simp [State.reset]
  refine decide_eq_decide.2 ⟨?_, ?_⟩
  · rintro ⟨i, -, hi⟩
    exact ⟨0, by decide, (h0 0).trans ((h0 i).symm.trans hi)⟩
  · rintro ⟨i, -, hi⟩
    exact ⟨0, by decide, (h0 0).trans ((h0 i).symm.trans hi)⟩
theorem witness_ShortDatagramIsNoError :
    ({ withSet [100] true State.reset with length := 187 } : State).lock = true ∧
    ({ withSet [100] true State.reset with length := 187 } : State).length.toNat < 188 := by decide
theorem witness_OnlyScanPatchAndProcessCheckTheLock :
    needsLock .scanPatch = true ∧ State.reset.lock = false ∧ needsLock .member = false ∧
    (inFlight 8 State.reset).busy = true ∧ decode (inFlight 8 State.reset).latchedCmd = .error .reservedOpcode := by decide
theorem witness_RangeIsRaisedExactlyForLargeWindows :
    (needsLock .scanPatch = true → (withSet [] true State.reset).lock = true) ∧
    windowTooLarge { withSet [] true State.reset with argOffset := 1401 } .scanPatch ∧
    ¬ windowTooLarge { withSet [] true State.reset with argOffset := 1400 } .scanPatch ∧
    windowTooLarge { State.reset with argOffset := 1397 } .readPid ∧ ¬ windowTooLarge { State.reset with length := 1400 } .resolve := by
  unfold windowTooLarge; decide
theorem witness_RegisterReadsFollowTheMap :
    ¬ (4 = 4 ∧ mapped 0x058) ∧ ¬ (2 = 4 ∧ mapped 0x000) ∧ (inFlight 0 State.reset).busy = true ∧
    (0x04C#12).toNat % 4 = 0 ∧ 0x028 ≤ (0x028#12).toNat ∧ (0x04C#12).toNat ≤ 0x04C ∧ State.reset.busy = false ∧
    (withSet [1, 2] false State.reset).patchCount ≤ 100 := by
  unfold mapped; decide
theorem witness_RegisterMapIsOneToOne : regAt 0x28C = some (.patchTable 99) := by decide
theorem witness_OperandWritesKeepTheLowHalf : State.reset.busy = false ∧ (inFlight 0 State.reset).busy = true :=
  witness_busy_and_idle
theorem witness_ReadOnlyRegistersIgnoreWrites :
    (mapped 0x050 ∧ 0x028 ≤ (0x050#12).toNat ∧ (0x050#12).toNat ≤ 0x050) ∧ (mapped 0x28C ∧ 0x100 ≤ (0x28C#12).toNat) ∧
    (mapped 0x004 ∧ (0x004#12).toNat ≤ 0x004) ∧ mapped 0x00C := by
  unfold mapped; decide
theorem witness_CtrlWriteOnlySetsLock : State.reset.busy = false ∧ (inFlight 0 State.reset).busy = true :=
  witness_busy_and_idle
theorem witness_ErrWriteClearsTheBitsWrittenOne :
    (5 : Nat) < 6 ∧ (regWr 0x010 4 0xFFFFFFE0 { State.reset with err := 0x21 }).err = 0x01 := by decide
theorem witness_PatchPushAppendsOrRejects :
    (inFlight 0 State.reset).patchCount ≤ 100 ∧ (inFlight 0 State.reset).busy = true ∧
    ({ State.reset with patchCount := 100 } : State).patchCount = 100 ∧ (8192#32).toNat > 8191 ∧
    (withSet [] true State.reset).lock = true ∧
    ({ State.reset with patchCount := 99 } : State).busy = false ∧
    ({ State.reset with patchCount := 99 } : State).lock = false ∧
    ({ State.reset with patchCount := 99 } : State).patchCount < 100 ∧ (8191#32).toNat ≤ 8191 := by decide
theorem witness_BufferReadsReturnTheByte :
    ¬ (1 = 1 ∧ 1400 < 1400) ∧ ¬ (2 = 1 ∧ 0 < 1400) ∧ 1399 < 1400 ∧ (inFlight 0 State.reset).busy = true ∧
    State.reset.busy = false := by decide
theorem witness_BufferWritesStoreTheByte :
    ¬ (1 = 1 ∧ 1400 < 1400) ∧ 1399 < 1400 ∧ (inFlight 0 State.reset).busy = true ∧ State.reset.busy = false ∧ 1398 ≠ 1399 := by
  decide
theorem witness_BadAccessesOnlySetBus :
    ¬ (4 = 4 ∧ mapped 0x002) ∧ ¬ (4 = 4 ∧ mapped 0x290) ∧ ¬ (1 = 1 ∧ 1400 < 1400) := by
  unfold mapped; decide
theorem witness_BusyWritesAreDroppedWithHazard :
    (inFlight 0 State.reset).busy = true ∧ (0x054#12) = 0x054 ∧ 1399 < 1400 ∧ mapped 0x00C ∧ (0x00C#12).toNat = 0x00C := by
  unfold mapped; decide
theorem witness_HostTurnPerformsTheNextOperation :
    ({ State.reset with schedule := [.host] } : State).schedule.head? = some .host ∧
    (State.reset.schedule = [] ∧ State.reset.busy = false) ∧
    (launch [.transaction (.regRd 0x00C 4)] []).hostProgram = .transaction (.regRd 0x00C 4) :: [] ∧
    (launch [.transaction (.regWr 0x018 4 5)] []).hostProgram = .transaction (.regWr 0x018 4 5) :: [] ∧
    (launch [.transaction (.bufRd 0 1)] []).hostProgram = .transaction (.bufRd 0 1) :: [] ∧
    (launch [.transaction (.bufWr 0 1 7)] []).hostProgram = .transaction (.bufWr 0 1 7) :: [] ∧
    (launch [.poll] []).hostProgram = .poll :: [] := by decide
theorem witness_PseudoInstructionsExpandToTransactions : 1 < [0x47#8, 0x40#8].length ∧ 183 < 184 := by decide
/-- A NOP in flight meets the invariant, and its step answers. -/
theorem witness_EveryStepKeepsTheInvariant :
    (inFlight 0 State.reset).Inv ∧ step (inFlight 0 State.reset) = .next (complete (inFlight 0 State.reset)) :=
  ⟨by unfold State.Inv; decide, rfl⟩
theorem witness_LockedPatchSetIsImmutable :
    step (inFlight 0 (withSet [100] true State.reset)) = .next (complete (inFlight 0 (withSet [100] true State.reset))) ∧
    (inFlight 0 (withSet [100] true State.reset)).turn ≠ .reset ∧ (inFlight 0 (withSet [100] true State.reset)).lock = true :=
  ⟨rfl, by decide, by decide⟩
theorem witness_CountersNeverDecrease :
    step (inFlight 6 State.reset) = .next (raiseErr .unlocked (inFlight 6 State.reset)) ∧
    (inFlight 6 State.reset).turn ≠ .reset ∧ (raiseErr .unlocked (inFlight 6 State.reset)).err ≠ (inFlight 6 State.reset).err ∧
    State.reset.turn = .host ∧ State.reset.busy = false ∧ step State.reset = .next State.reset :=
  ⟨rfl, by decide, by decide, by decide, by decide, rfl⟩
/-- Each kind of failing engine step, with its ERR bit 1 already: ERR stays and the step fails all the same. -/
theorem witness_CountersNeverDecrease_sticky :
    engineStepFails (inFlight 8 { State.reset with err := 1 }) ∧
    engineStepFails (inFlight 6 { State.reset with err := 2 }) ∧
    engineStepFails (inFlight 7 { withSet [] true State.reset with err := 4, length := 1401 }) ∧
    shown (·.err) (step (inFlight 7 { withSet [] true State.reset with err := 4, length := 1401 })) = some 4 :=
  ⟨.inl ⟨.reservedOpcode, by decide⟩, .inr ⟨.scanPatch, by decide, .inl (by decide)⟩,
    .inr ⟨.process, by decide, .inr (by unfold windowTooLarge; decide)⟩, by decide⟩
/-- A host write, and a WRITE_PID, that change a stored byte. -/
theorem witness_BufferBytesAreStableUntilWritten :
    ({ withBytes 0 [1] with hostProgram := [.transaction (.bufWr 0 1 2)] } : State).turn ≠ .reset ∧
    shown (·.byteAt 0) (step { withBytes 0 [1] with hostProgram := [.transaction (.bufWr 0 1 2)] }) = some 2 ∧
    (withBytes 0 [1]).byteAt 0 = 1 ∧
    (inFlight 2 { withBytes 0 [0x47, 0x40, 0x64, 0x10] with argValue := 8191 }).turn ≠ .reset ∧
    shown (·.byteAt 2) (step (inFlight 2 { withBytes 0 [0x47, 0x40, 0x64, 0x10] with argValue := 8191 })) = some 0xFF ∧
    (withBytes 0 [0x47, 0x40, 0x64, 0x10]).byteAt 2 = 0x64 := by decide
theorem witness_HostTurnsNeverDisturbTheCommandInFlight :
    ({ inFlight 0 State.reset with schedule := [.host] } : State).busy = true ∧
    ({ inFlight 0 State.reset with schedule := [.host] } : State).turn = .host ∧
    step { inFlight 0 State.reset with schedule := [.host] } = .next (inFlight 0 State.reset) := ⟨by decide, by decide, rfl⟩
theorem witness_IdleBlockKeepsItsState :
    State.reset.busy = false ∧ State.reset.turn ≠ .reset ∧ State.reset.hostProgram = [] ∧
    ({ State.reset with schedule := [.engine] } : State).turn = .engine ∧
    step { State.reset with schedule := [.engine] } = .next State.reset := ⟨by decide, by decide, by decide, by decide, rfl⟩
theorem witness_ResetValuesAreTheTables : mapped 0x008 ∧ 0x008 ≤ (0x008#12).toNat ∧ mapped 0x28C := by
  unfold mapped; decide
theorem witness_ResetInputWorksInAnyState :
    ({ inFlight 7 State.reset with schedule := [.reset] } : State).schedule.head? = some .reset := by decide

/-! ## The premises of R139 -/

/-- Write byte 0, test it with IS_SYNCED, poll, and read the result and the byte. -/
def testProgram : List HostOp :=
  assemble [.wb 0 0x47, .run .isSynced, .rd .resValue, .rb 0]

/-- The same with the result read before the poll. -/
def hastyProgram : List HostOp := assemble [.wb 0 0x47, .cmd .isSynced, .rd .resValue, .poll]

/-- The same with bytes 0 to 2, which R48 says IS_SYNCED reads, written first. -/
def cleanProgram : List HostOp := assemble [.wblk 0 [0x47, 0x40, 0x64], .run .isSynced, .rd .resValue, .rb 0]

/-- Where the run of the clean program comes to rest. -/
def cleanEnd : State :=
  { State.reset with
    done := true, latchedCmd := 3, resValue := 1, buf := [(0, 0x47), (1, 0x40), (2, 0x64)]
    observed := [.byte 0x47, .word 1, .word 2] }

theorem test_clean_end : core.run 8 (launch cleanProgram []) = .next cleanEnd := by rfl

theorem test_hasty_host_owes_a_poll : pollsFor 4 false (launch hastyProgram [.host, .host, .host]) = false := by decide

theorem test_bytes_not_written_first :
    shown (fun s => (s.nextReads, s.written 0, s.written 1)) (core.run 2 (launch testProgram [])) =
      some ([0, 1, 2], true, false) := by decide

theorem cleanEnd_rests : cleanEnd.schedule = [] ∧ cleanEnd.runEnded := ⟨rfl, rfl, rfl⟩

theorem witness_PollingHostMeetsNoBusyBlock : (launch cleanProgram []).polls ∧
    ∃ t, core.run 6 (launch cleanProgram []) = .next t ∧ t.nextTransaction = some (.regRd Reg.resValue.offset 4) ∧
      needsPoll (.regRd Reg.resValue.offset 4) = true := by
  refine ⟨fun k => ?_, _, rfl, by decide, by decide⟩
  match k with
  | 0 | 1 | 2 | 3 | 4 | 5 | 6 | 7 => decide
  | k + 8 => exact rest_pollsFor cleanEnd_rests.1 cleanEnd_rests.2 k false

theorem witness_RunsThatWriteFirstIgnoreTheDraws :
    (launch cleanProgram []).writesFirst ∧ core.run 8 (launch cleanProgram []) = .next cleanEnd := by
  refine ⟨fun k t h => ?_, rfl⟩
  match k, h with
  | 0, h | 1, h | 2, h | 3, h | 4, h | 5, h | 6, h | 7, h => cases h; decide
  | k + 8, h =>
    have h' : core.run k cleanEnd = .next t := h
    rw [rest_run cleanEnd_rests.1 cleanEnd_rests.2 k] at h'
    cases h'
    rw [rest_nextReads cleanEnd_rests.1 cleanEnd_rests.2]
    exact fun _ h => absurd h List.not_mem_nil

/-- The premises of R139 hold together of one program. -/
theorem test_clean_launch_of_a_well_behaved_host :
    cleanLaunch cleanProgram [] (launch cleanProgram []) ∧ wellBehavedRun (launch cleanProgram []) 8 cleanEnd :=
  ⟨⟨rfl, witness_RunsThatWriteFirstIgnoreTheDraws.1⟩, rfl, cleanEnd_rests.2, by unfold State.hostBehaved; decide,
    witness_PollingHostMeetsNoBusyBlock.1⟩

end Sys2Proof.Tests
end

section
/-! SUPPORT. What a command does, said once for all eight: raise UNLOCKED, raise RANGE, or leave `commandState`; and what
`commandState` keeps (R72, R112, R113). -/

namespace Sys2Proof.Machine

open Sys2Proof.Spec

/-- What a command leaves when its checks pass. -/
def commandState : Instr → State → State
  | .nop, s => complete s
  | .readPid, s => readPidState s
  | .writePid, s => writePidState s
  | .isSynced, s => isSyncedState s
  | .resolve, s => complete (writeResolved s.length.toNat s)
  | .member, s => complete { s with resValue := if s.member s.valueOp then 1 else 0 }
  | .scanPatch, s => scanPatchState s
  | .process, s => processState s

theorem exec_unlocked {i : Instr} {s : State} (hi : needsLock i = true) (hl : s.lock = false) :
    exec i s = .next (raiseErr .unlocked s) := by
  cases i <;> cases hi
  case scanPatch => exact (execScanPatch_eq s).trans (if_pos hl)
  case process => exact (execProcess_eq s).trans (if_pos hl)

theorem exec_range {i : Instr} {s : State} (hl : needsLock i = true → s.lock = true) (hw : windowTooLarge s i) :
    exec i s = .next (raiseErr .range s) := by
  cases i <;> simp only [windowTooLarge] at hw
  case readPid => exact (execReadPid_eq s).trans (if_neg (by omega))
  case writePid => exact (execWritePid_eq s).trans (if_neg (by omega))
  case isSynced => exact (execIsSynced_eq s).trans (if_neg (by omega))
  case resolve => exact (execResolve_eq s).trans (if_neg (by omega))
  case scanPatch =>
    exact (execScanPatch_eq s).trans ((if_neg (by simp [hl rfl])).trans (if_neg (by omega)))
  case process =>
    exact (execProcess_eq s).trans ((if_neg (by simp [hl rfl])).trans (if_neg (by omega)))

theorem exec_runs {i : Instr} {s : State} (hl : needsLock i = true → s.lock = true) (hw : ¬ windowTooLarge s i) :
    exec i s = .next (commandState i s) := by
  cases i <;> simp only [windowTooLarge, not_lt, gt_iff_lt] at hw
  case nop => rfl
  case member => rfl
  case readPid => exact (execReadPid_eq s).trans (if_pos hw)
  case writePid => exact (execWritePid_eq s).trans (if_pos hw)
  case isSynced => exact (execIsSynced_eq s).trans (if_pos hw)
  case resolve => exact (execResolve_eq s).trans (if_pos hw)
  case scanPatch => exact (execScanPatch_eq s).trans ((if_neg (by simp [hl rfl])).trans (if_pos hw))
  case process => exact (execProcess_eq s).trans ((if_neg (by simp [hl rfl])).trans (if_pos hw))

/-- The three ends of a command, told from the state before it: UNLOCKED, RANGE, or a completion without error. -/
theorem exec_cases {i : Instr} {s t : State} (h : exec i s = .next t) :
    (needsLock i = true ∧ s.lock = false ∧ t = raiseErr .unlocked s) ∨
    (windowTooLarge s i ∧ t = raiseErr .range s) ∨
    ((needsLock i = true → s.lock = true) ∧ ¬ windowTooLarge s i ∧ t = commandState i s) := by
  by_cases hl : needsLock i = true ∧ s.lock = false
  · obtain ⟨hi, hf⟩ := hl
    rw [exec_unlocked hi hf] at h
    cases h
    exact .inl ⟨hi, hf, rfl⟩
  · have hl' : needsLock i = true → s.lock = true := by simpa using hl
    by_cases hw : windowTooLarge s i
    · rw [exec_range hl' hw] at h
      cases h
      exact .inr (.inl ⟨hw, rfl⟩)
    · rw [exec_runs hl' hw] at h
      cases h
      exact .inr (.inr ⟨hl', hw, rfl⟩)

/-- No command writes the lock, the operands, the Patch Set, ERR or a field of the host's (R72). -/
theorem commandState_frame (i : Instr) (s : State) :
    commandState i s =
      { commandState i s with
        lock := s.lock, err := s.err, latchedCmd := s.latchedCmd, length := s.length, argOffset := s.argOffset,
        argCount := s.argCount, argValue := s.argValue, patchCount := s.patchCount, pt := s.pt, resets := s.resets,
        draws := s.draws, hostProgram := s.hostProgram, schedule := s.schedule, observed := s.observed } := by
  cases i
  case scanPatch =>
    rw [commandState, scanPatchState, writeScanned, slicesResult_frame]
    rfl
  case process =>
    rw [commandState, processState, writeScanned, slicesResult_frame]
    rfl
  all_goals rfl

/-- Only WRITE_PID, SCAN_PATCH and PROCESS store buffer bytes (R72). -/
theorem commandState_buf {i : Instr} (h1 : i ≠ .writePid) (h2 : i ≠ .scanPatch) (h3 : i ≠ .process) (s : State) :
    (commandState i s).buf = s.buf := by
  cases i
  case writePid => exact absurd rfl h1
  case scanPatch => exact absurd rfl h2
  case process => exact absurd rfl h3
  all_goals rfl

end Sys2Proof.Machine
end

section
/-! SUPPORT. What a register write can do, said once, and a register write through the register's name (R18, R100). -/

namespace Sys2Proof.Machine

/-- R103's append: PT[N] takes the PID and N grows by one. -/
def appendPid (w : Word) (s : State) : State :=
  { s with pt := s.pt.setIfInBounds s.patchCount (w.setWidth 13), patchCount := s.patchCount + 1 }

/-- A register write changes ERR at most, or BUSY = 0 and it accepts a command, sets the lock, appends a PID in the
configuration phase, or changes an operand. -/
theorem regWr_cases (off : BitVec 12) (width : Nat) (w : Word) (s : State) :
    (∃ e, regWr off width w s = { s with err := e }) ∨
    s.busy = false ∧
      (regWr off width w s = acceptCmd w s ∨ regWr off width w s = writeCtrl w s ∨
        (s.lock = false ∧ s.patchCount < 100 ∧ regWr off width w s = appendPid w s) ∨
        ∃ l o c v, regWr off width w s = { s with length := l, argOffset := o, argCount := c, argValue := v }) := by
  by_cases hb : s.busy = true
  · exact .inl ⟨_, regWr_busy_frame hb off width w⟩
  have hb' : s.busy = false := by simpa using hb
  unfold regWr
  split
  · exact .inl ⟨_, rfl⟩
  · next r _ =>
    have idle := unlessBusy_idle hb'
    cases r
    case cmd => exact .inr ⟨hb', .inl (idle _)⟩
    case ctrl => exact .inr ⟨hb', .inr (.inl (idle _))⟩
    case patchPush =>
      rcases pushPid_cases w s with ⟨h, _⟩ | ⟨hl, hn, _, h⟩
      · exact .inl ⟨_, (idle _).trans h⟩
      · exact .inr ⟨hb', .inr (.inr (.inl ⟨hl, hn, (idle _).trans h⟩))⟩
    case length | argOffset | argCount | argValue =>
      simp only [writeReg, idle]
      exact .inr ⟨hb', .inr (.inr (.inr ⟨_, _, _, _, rfl⟩))⟩
    all_goals exact .inl ⟨_, rfl⟩

end Sys2Proof.Machine
end

section
/-! SUPPORT. The invariant of Safety.lean, kept by each operation a step is made of. -/

namespace Sys2Proof.Machine

open Sys2Proof.Spec

theorem satAdd_toNat (c : Word) (n : Nat) : (satAdd c n).toNat = min (c.toNat + n) 4294967295 := by
  rw [satAdd, BitVec.toNat_ofNat]
  omega

theorem encapClass_toNat_le (p : Nat) : (encapClass p).toNat ≤ 2 := by
  unfold encapClass
  repeat' split
  all_goals decide

theorem resetBlock_inv (s : State) : (resetBlock s).Inv := by
  simp [State.Inv, Memory.wf, resetBlock, State.reset]

namespace State.Inv

variable {s : State}

theorem complete (h : s.Inv) : (complete s).Inv := by
  obtain ⟨hbuf, hn, -, hrest⟩ := h
  exact ⟨hbuf, hn, nofun, hrest⟩

theorem raiseErr (h : s.Inv) (e : ErrBit) : (raiseErr e s).Inv := State.Inv.complete (s := setErr e s) h

theorem acceptCmd (h : s.Inv) (w : Word) : (acceptCmd w s).Inv := by
  obtain ⟨hbuf, hn, -, hrest⟩ := h
  exact ⟨hbuf, hn, fun _ => rfl, hrest⟩

/-- A lock that a write has left at 0 was 0 before it (R101). -/
theorem writeCtrl (h : s.Inv) (w : Word) : (writeCtrl w s).Inv := by
  obtain ⟨hbuf, hn, hbd, hc, ho, he, hp, hv, hcp, hcs, hlock⟩ := h
  exact ⟨hbuf, hn, hbd, hc, ho, he, hp, hv, hcp, hcs, fun hl => hlock (Bool.or_eq_false_iff.1 hl).1⟩

theorem appendPid (h : s.Inv) (hn : s.patchCount < 100) (w : Word) : (appendPid w s).Inv := by
  obtain ⟨hbuf, -, hrest⟩ := h
  exact ⟨hbuf, hn, hrest⟩

theorem withBuf (h : s.Inv) {m : Memory} (hm : Memory.wf m) : ({ s with buf := m } : State).Inv :=
  ⟨hm, h.2⟩

theorem withResValue (h : s.Inv) {v : Half} (hv : v.toNat ≤ 8191) : ({ s with resValue := v } : State).Inv := by
  obtain ⟨hbuf, hn, hbd, hc, ho, he, hp, -, hcnt⟩ := h
  exact ⟨hbuf, hn, hbd, hc, ho, he, hp, hv, hcnt⟩

/-- Counting a datagram is no harm in the relay phase (R97). -/
theorem withCntDgram (h : s.Inv) (hl : s.lock = true) (c : Word) : ({ s with cntDgram := c } : State).Inv := by
  obtain ⟨hbuf, hn, hbd, hc, ho, he, hp, hv, hcp, hcs, -⟩ := h
  exact ⟨hbuf, hn, hbd, hc, ho, he, hp, hv, hcp, hcs, fun hf => absurd (hl.symm.trans hf) nofun⟩

/-- A length of at most 1400 has at most 7 slices and at most 187 bytes before them (R81). -/
theorem writeResolved (h : s.Inv) {len : Nat} (hlen : len ≤ 1400) : (writeResolved len s).Inv := by
  obtain ⟨hbuf, hn, hbd, -, -, -, hrest⟩ := h
  refine ⟨hbuf, hn, hbd, ?_, ?_, encapClass_toNat_le _, hrest⟩
  · rw [writeResolved_resCount, packetCount_eq, BitVec.toNat_ofNat]; omega
  · rw [writeResolved_resOffset, prefixOffset_eq, BitVec.toNat_ofNat]; omega

/-- The counts of at most 7 slices fit their registers, and saturating additions keep the order of the counters (R88). -/
theorem writeScanned {n : Nat} {r : Scanned} (h : r.state.Inv) (hl : r.state.lock = true) (hn : n ≤ 7)
    (hr : r.patched + r.syncErr ≤ n) : (writeScanned n r).Inv := by
  obtain ⟨hbuf, hN, hbd, hc, ho, he, -, hv, hcp, hcs, -⟩ := h
  refine ⟨hbuf, hN, hbd, hc, ho, he, ?_, hv, ?_, ?_, fun hf => absurd (hl.symm.trans hf) nofun⟩
  · rw [writeScanned_resPatched, writeScanned_resSyncErr, BitVec.toNat_ofNat, BitVec.toNat_ofNat]; omega
  · rw [writeScanned_cntPatch, writeScanned_cntPkt, satAdd_toNat, satAdd_toNat]; omega
  · rw [writeScanned_cntSyncErr, writeScanned_cntPkt, satAdd_toNat, satAdd_toNat]; omega

/-- A scan of slices in the buffer, with its results written. -/
theorem scan (h : s.Inv) (hl : s.lock = true) {a n : Nat} (hfit : a + 188 * n ≤ 1400) :
    (Machine.writeScanned n (slicesResult a n (scanStart s))).Inv := by
  have hframe := slicesResult_frame a n (scanStart s)
  refine writeScanned ?_ ?_ (by omega) ?_
  · rw [hframe]
    exact withBuf (s := s) h (slicesResult_wf hfit (r := scanStart s) h.1)
  · rw [hframe]
    exact hl
  · simpa [scanStart] using slicesResult_counts a n (scanStart s)

theorem commandState (h : s.Inv) {i : Instr} (hl : needsLock i = true → s.lock = true) (hw : ¬ windowTooLarge s i) :
    (commandState i s).Inv := by
  cases i <;> simp only [windowTooLarge, not_lt, gt_iff_lt] at hw
  case nop => exact complete h
  case readPid =>
    refine complete (withResValue h ?_)
    rw [BitVec.toNat_setWidth]
    exact (Nat.mod_le _ _).trans (Nat.le_of_lt_succ (BitVec.isLt _))
  case writePid => exact complete (withBuf h (withPid_wf (by omega) _ h.1))
  case isSynced => exact complete (withResValue h (by split <;> decide))
  case resolve => exact complete (writeResolved h hw)
  case member => exact complete (withResValue h (by split <;> decide))
  case scanPatch => exact complete (scan h (hl rfl) hw)
  case process =>
    have hscan := scan h (hl rfl) (show s.length.toNat % 188 + 188 * (s.length.toNat / 188) ≤ 1400 by omega)
    refine complete (withCntDgram (writeResolved hscan hw) ?_ _)
    rw [writeResolved_lock, writeScanned_lock, slicesResult_frame]
    exact hl rfl

theorem exec (h : s.Inv) {i : Instr} {t : State} (ht : exec i s = .next t) : t.Inv := by
  rcases exec_cases ht with ⟨-, -, rfl⟩ | ⟨-, rfl⟩ | ⟨hl, hw, rfl⟩
  · exact h.raiseErr _
  · exact h.raiseErr _
  · exact h.commandState hl hw

theorem regWr (h : s.Inv) (off : BitVec 12) (width : Nat) (w : Word) : (regWr off width w s).Inv := by
  rcases regWr_cases off width w s with ⟨e, hs⟩ | ⟨-, hs | hs | ⟨-, hn, hs⟩ | ⟨l, o, c, v, hs⟩⟩ <;> rw [hs]
  · exact h
  · exact h.acceptCmd w
  · exact h.writeCtrl w
  · exact h.appendPid hn w
  · exact h

theorem transact (h : s.Inv) (x : Transaction) : (transact x s).2.Inv := by
  cases x <;> simp only [Machine.transact]
  case regRd => rw [regRd_frame]; exact h
  case regWr => exact h.regWr _ _ _
  case bufRd => rw [bufRd_frame]; exact h
  case bufWr => rw [bufWr_frame]; exact withBuf (s := s) h (bufWr_wf _ _ _ h.1)

theorem hostStep (h : s.Inv) : (hostStep s).Inv := by
  rcases hostStep_cases s with ⟨-, hs⟩ | ⟨x, rest, -, hs⟩ | ⟨rest, left, -, hs⟩ <;> rw [hs]
  · exact h
  · exact h.transact x
  · exact h.transact (.regRd Reg.status.offset 4)

end State.Inv

/-- Settles O41, by what each agent's turn can do. -/
theorem everyStepKeepsTheInvariant : Obligations.EveryStepKeepsTheInvariant := by
  intro s t h hstep
  have hpop : s.popTurn.Inv := h
  rcases step_cases hstep with ⟨-, rfl⟩ | ⟨-, -, i, -, ht⟩ | ⟨-, -, -, rfl⟩ | ⟨-, -, rfl⟩ | ⟨-, rfl⟩
  · exact hpop.hostStep
  · exact hpop.exec ht
  · exact hpop.raiseErr _
  · exact hpop
  · exact resetBlock_inv _

end Sys2Proof.Machine
end

section
/-! SUPPORT. The register map (R18, R35) and writes through a register's name. -/

namespace Sys2Proof.Machine

open Sys2Proof.Spec

/-- The k-th register below PATCH_TABLE has offset 4 k, and there are 22 of them. -/
theorem lowRegs_offset : ∀ k, (h : k < lowRegs.length) → lowRegs[k].offset.toNat = 4 * k := by decide

theorem patchTable_offset_toNat (i : Fin 100) : (Reg.patchTable i).offset.toNat = 0x100 + 4 * i.val := by
  rw [Reg.offset, BitVec.toNat_ofNat]
  omega

theorem regAt_offset (r : Reg) : regAt r.offset = some r := by
  cases r
  case patchTable i =>
    have hi := i.isLt
    unfold regAt
    rw [patchTable_offset_toNat, if_neg (by omega), if_neg (by omega), dif_pos (by omega)]
    simp
  all_goals decide

theorem offset_of_regAt {off : BitVec 12} {r : Reg} (h : regAt off = some r) : r.offset = off := by
  apply BitVec.eq_of_toNat_eq
  unfold regAt at h
  split at h
  · cases h
  next haligned =>
  split at h
  · obtain ⟨hk, rfl⟩ := List.getElem?_eq_some_iff.1 h
    rw [lowRegs_offset _ hk]
    omega
  split at h
  · cases h
    rw [patchTable_offset_toNat]
    show 0x100 + 4 * ((off.toNat - 0x100) / 4) = off.toNat
    omega
  · cases h

theorem regAt_isSome_iff (off : BitVec 12) : (regAt off).isSome = true ↔ mapped off := by
  unfold regAt mapped
  split
  · exact iff_of_false nofun (by omega)
  next haligned =>
  split
  · rw [isSome_getElem?, show lowRegs.length = 22 from rfl]
    omega
  split
  · exact iff_of_true rfl (by omega)
  · exact iff_of_false nofun (by omega)

/-- Settles O28, by the three ranges of `regAt`. -/
theorem registerMapIsOneToOne : Obligations.RegisterMapIsOneToOne :=
  ⟨regAt_offset, fun _ _ => offset_of_regAt, regAt_isSome_iff⟩

/-- A 4-byte write at a register's offset is a write of that register. -/
theorem regWr_offset (r : Reg) (w : Word) (s : State) : regWr r.offset 4 w s = writeReg r w s := by
  simp [regWr, regAccess, regAt_offset]

theorem writeReg_operand_idle {s : State} (hb : s.busy = false) (w : Word) :
    writeReg .length w s = { s with length := w.setWidth 16 } ∧
    writeReg .argOffset w s = { s with argOffset := w.setWidth 16 } ∧
    writeReg .argCount w s = { s with argCount := w.setWidth 16 } ∧
    writeReg .argValue w s = { s with argValue := w.setWidth 16 } := by
  simp only [writeReg, unlessBusy_idle hb, and_self]

theorem writeReg_operand_busy {s : State} (hb : s.busy = true) (w : Word) :
    writeReg .length w s = setErr .hazard s ∧ writeReg .argOffset w s = setErr .hazard s ∧
    writeReg .argCount w s = setErr .hazard s ∧ writeReg .argValue w s = setErr .hazard s := by
  simp only [writeReg, unlessBusy_busy hb, and_self]

/-- Settles O29, by the write of each operand register through its name. -/
theorem operandWritesKeepTheLowHalf : Obligations.OperandWritesKeepTheLowHalf := by
  intro w s
  rw [BitVec.ofNat_toNat]
  refine ⟨fun hb => ?_, fun hb => ?_⟩
  · obtain ⟨hlen, hofs, hcnt, hval⟩ := writeReg_operand_idle hb w
    exact ⟨(regWr_offset .length w s).trans hlen, (regWr_offset .argOffset w s).trans hofs,
      (regWr_offset .argCount w s).trans hcnt, (regWr_offset .argValue w s).trans hval⟩
  · obtain ⟨hlen, hofs, hcnt, hval⟩ := writeReg_operand_busy hb w
    exact ⟨(regWr_offset .length w s).trans hlen, (regWr_offset .argOffset w s).trans hofs,
      (regWr_offset .argCount w s).trans hcnt, (regWr_offset .argValue w s).trans hval⟩

end Sys2Proof.Machine
end

section
/-! SUPPORT. The Patch Set and the lock under every step but a reset (R21, R28, R29). -/

namespace Sys2Proof.Machine

/-- The lock stays set, the members stay members in their places, and with the lock set nothing of the table changes. -/
def PatchSetGrows (s t : State) : Prop :=
  (s.lock = true → t.lock = true ∧ t.pt = s.pt ∧ t.patchCount = s.patchCount) ∧ s.members <+: t.members

theorem PatchSetGrows.of_same {s t : State} (hl : t.lock = s.lock) (hp : t.pt = s.pt)
    (hn : t.patchCount = s.patchCount) : PatchSetGrows s t :=
  ⟨fun h => ⟨hl.trans h, hp, hn⟩, by simp [State.members, hp, hn]⟩

/-- A PID is appended behind the members (R103). -/
theorem members_prefix_appendPid (w : Word) (s : State) : s.members <+: (appendPid w s).members := by
  have hkeep : s.members = (appendPid w s).pt.toList.take s.patchCount := by
    simp [State.members, appendPid, List.take_set_of_le]
  rw [hkeep]
  exact List.take_prefix_take_left (Nat.le_succ _)

theorem regWr_patchSetGrows (off : BitVec 12) (width : Nat) (w : Word) (s : State) :
    PatchSetGrows s (regWr off width w s) := by
  rcases regWr_cases off width w s with ⟨e, hs⟩ | ⟨-, hs | hs | ⟨hl, -, hs⟩ | ⟨l, o, c, v, hs⟩⟩ <;> rw [hs]
  · exact .of_same rfl rfl rfl
  · exact .of_same rfl rfl rfl
  · exact ⟨fun h => ⟨by simp [writeCtrl, h], rfl, rfl⟩, List.prefix_refl _⟩
  · exact ⟨fun h => absurd (hl.symm.trans h) nofun, members_prefix_appendPid w s⟩
  · exact .of_same rfl rfl rfl

theorem transact_patchSetGrows (x : Transaction) (s : State) : PatchSetGrows s (transact x s).2 := by
  cases x <;> simp only [transact]
  case regRd => rw [regRd_frame]; exact .of_same rfl rfl rfl
  case regWr => exact regWr_patchSetGrows _ _ _ _
  case bufRd => rw [bufRd_frame]; exact .of_same rfl rfl rfl
  case bufWr => rw [bufWr_frame]; exact .of_same rfl rfl rfl

theorem hostStep_patchSetGrows (s : State) : PatchSetGrows s (hostStep s) := by
  rcases hostStep_cases s with ⟨-, hs⟩ | ⟨x, rest, -, hs⟩ | ⟨rest, left, -, hs⟩ <;> rw [hs]
  · exact .of_same rfl rfl rfl
  · exact transact_patchSetGrows x s
  · exact transact_patchSetGrows (.regRd Reg.status.offset 4) s

theorem exec_patchSetGrows {i : Instr} {s t : State} (h : exec i s = .next t) : PatchSetGrows s t := by
  rcases exec_cases h with ⟨-, -, rfl⟩ | ⟨-, rfl⟩ | ⟨-, -, rfl⟩
  · exact .of_same rfl rfl rfl
  · exact .of_same rfl rfl rfl
  · rw [commandState_frame]
    exact .of_same rfl rfl rfl

/-- Settles O43: only a host turn can touch the lock or the table, and there only CTRL and PATCH_PUSH do. -/
theorem lockedPatchSetIsImmutable : Obligations.LockedPatchSetIsImmutable := by
  intro s t hstep hreset
  rcases step_cases hstep with ⟨-, rfl⟩ | ⟨-, -, i, -, ht⟩ | ⟨-, -, -, rfl⟩ | ⟨-, -, rfl⟩ | ⟨hturn, -⟩
  · exact hostStep_patchSetGrows s.popTurn
  · exact exec_patchSetGrows (s := s.popTurn) ht
  · exact PatchSetGrows.of_same rfl rfl rfl
  · exact PatchSetGrows.of_same rfl rfl rfl
  · exact absurd hturn hreset

end Sys2Proof.Machine
end

section
/-! SUPPORT. The counters under every step but a reset (R27). -/

namespace Sys2Proof.Machine

open Sys2Proof.Spec

/-- The four counters are as they were. -/
def CountersKept (s t : State) : Prop :=
  t.cntDgram = s.cntDgram ∧ t.cntPkt = s.cntPkt ∧ t.cntPatch = s.cntPatch ∧ t.cntSyncErr = s.cntSyncErr

/-- No counter has decreased. -/
def CountersGrow (s t : State) : Prop :=
  s.cntDgram.toNat ≤ t.cntDgram.toNat ∧ s.cntPkt.toNat ≤ t.cntPkt.toNat ∧
  s.cntPatch.toNat ≤ t.cntPatch.toNat ∧ s.cntSyncErr.toNat ≤ t.cntSyncErr.toNat

theorem CountersKept.grow {s t : State} (h : CountersKept s t) : CountersGrow s t := by
  obtain ⟨hd, hp, hpatch, hs⟩ := h
  simp [CountersGrow, hd, hp, hpatch, hs]

/-- A saturating addition never decreases a counter (R88). -/
theorem le_satAdd (c : Word) (n : Nat) : c.toNat ≤ (satAdd c n).toNat := by
  rw [satAdd_toNat]
  omega

theorem hostStep_countersKept (s : State) : CountersKept s (hostStep s) := by
  rcases hostStep_cases s with ⟨-, hs⟩ | ⟨x, rest, -, hs⟩ | ⟨rest, left, -, hs⟩ <;> rw [hs]
  · exact ⟨rfl, rfl, rfl, rfl⟩
  · rw [perform, transact_frame]
    exact ⟨rfl, rfl, rfl, rfl⟩
  · rw [perform, transact_frame]
    exact ⟨rfl, rfl, rfl, rfl⟩

theorem commandState_countersGrow (i : Instr) (s : State) : CountersGrow s (commandState i s) := by
  cases i
  case scanPatch =>
    rw [commandState, scanPatchState, writeScanned, slicesResult_frame]
    exact ⟨Nat.le_refl _, le_satAdd _ _, le_satAdd _ _, le_satAdd _ _⟩
  case process =>
    rw [commandState, processState, writeScanned, slicesResult_frame]
    exact ⟨le_satAdd _ _, le_satAdd _ _, le_satAdd _ _, le_satAdd _ _⟩
  all_goals exact CountersKept.grow ⟨rfl, rfl, rfl, rfl⟩

/-- A step but a reset keeps the counters, or it is a command's completion without error. -/
theorem step_counters {s t : State} (hstep : step s = .next t) (hreset : s.turn ≠ .reset) :
    CountersKept s t ∨
    (CountersGrow s t ∧ s.turn = .engine ∧ s.busy = true ∧ ¬ engineStepFails s ∧ t.err = s.err) := by
  rcases step_cases hstep with ⟨-, rfl⟩ | ⟨hturn, hb, i, hd, ht⟩ | ⟨-, -, -, rfl⟩ | ⟨-, -, rfl⟩ | ⟨hturn, -⟩
  · exact .inl (hostStep_countersKept s.popTurn)
  · rcases exec_cases ht with ⟨-, -, rfl⟩ | ⟨-, rfl⟩ | ⟨hl, hw, rfl⟩
    · exact .inl ⟨rfl, rfl, rfl, rfl⟩
    · exact .inl ⟨rfl, rfl, rfl, rfl⟩
    · refine .inr ⟨commandState_countersGrow i s.popTurn, hturn, hb, ?_, by rw [commandState_frame]; rfl⟩
      rintro (⟨e, he⟩ | ⟨j, hj, hfail⟩)
      · cases hd.symm.trans he
      · cases hd.symm.trans hj
        rcases hfail with ⟨hi, hf⟩ | hbig
        · exact absurd ((hl hi).symm.trans hf) nofun
        · exact hw hbig
  · exact .inl ⟨rfl, rfl, rfl, rfl⟩
  · exact .inl ⟨rfl, rfl, rfl, rfl⟩
  · exact absurd hturn hreset

/-- Settles O44: every end of a turn but a command's completion without error keeps the counters. -/
theorem countersNeverDecrease : Obligations.CountersNeverDecrease := by
  intro s t hstep hreset
  rcases step_counters hstep hreset with hkept | ⟨⟨hd, hp, hpatch, hs⟩, hturn, hb, hok, herr⟩
  · obtain ⟨hd, hp, hpatch, hs⟩ := hkept.grow
    exact ⟨hd, hp, hpatch, hs, fun _ => hkept⟩
  · refine ⟨hd, hp, hpatch, hs, ?_⟩
    rintro (hh | hh | hh | hh)
    · exact absurd (hturn.symm.trans hh) nofun
    · exact absurd (hb.symm.trans hh) nofun
    · exact absurd hh hok
    · exact absurd herr hh

end Sys2Proof.Machine
end

section
/-! SUPPORT. The bytes of the buffer under every step but a reset (R31, R130). -/

namespace Sys2Proof.Machine

/-- A word that decodes to a command is that command's word (R59, R61). -/
theorem eq_encode_of_decode {w : Word} {i : Instr} (h : decode w = .ok i) : w = encode i := by
  have hw : w.toNat = 16 * rsvField w + opField w := by
    simp only [rsvField, opField, BitVec.extractLsb'_toNat, Nat.shiftRight_eq_div_pow]
    omega
  unfold decode at h
  split at h
  · cases h
  next hrsv =>
  apply BitVec.eq_of_toNat_eq
  rw [hw, not_not.1 hrsv]
  split at h <;> cases h
  all_goals next hop => rw [hop]; rfl

theorem regRd_byteAt (off : BitVec 12) (width : Nat) (s : State) (a : Nat) :
    (regRd off width s).2.byteAt a = s.byteAt a := by
  rw [regRd_frame]; rfl

/-- A buffer write that changes a byte is one of one byte to that address while BUSY = 0, and stores its value (R105). -/
theorem bufWr_changes {a c width : Nat} {b : Byte} {s : State} (h : (bufWr c width b s).byteAt a ≠ s.byteAt a) :
    c = a ∧ width = 1 ∧ s.busy = false ∧ (bufWr c width b s).byteAt a = b := by
  unfold bufWr at *
  split at h
  next hin =>
    rw [if_pos hin]
    by_cases hb : s.busy = true
    · rw [unlessBusy_busy hb] at h
      exact absurd rfl h
    · have hb' : s.busy = false := by simpa using hb
      rw [unlessBusy_idle hb'] at h ⊢
      have hca : c = a := by
        by_contra hne
        exact h (byteAt_setByte_other s (Ne.symm hne) b)
      subst hca
      exact ⟨rfl, (of_decide_eq_true hin).1, hb', byteAt_setByte_self s c b⟩
  next => exact absurd rfl h

/-- A transaction that changes a buffer byte is a host buffer write to it, performed while BUSY = 0. -/
theorem transact_changes {x : Transaction} {a : Nat} {s : State} (h : (transact x s).2.byteAt a ≠ s.byteAt a) :
    s.busy = false ∧ ∃ b, x = .bufWr a 1 b ∧ (transact x s).2.byteAt a = b := by
  cases x <;> simp only [transact] at h ⊢
  case regRd => exact absurd (regRd_byteAt _ _ _ _) h
  case regWr => rw [regWr_frame] at h; exact absurd rfl h
  case bufRd => rw [bufRd_frame] at h; exact absurd rfl h
  case bufWr =>
    obtain ⟨rfl, rfl, hb, hbyte⟩ := bufWr_changes h
    exact ⟨hb, _, rfl, hbyte⟩

theorem hostStep_changes {a : Nat} {s : State} (h : (hostStep s).byteAt a ≠ s.byteAt a) :
    s.busy = false ∧ ∃ b rest, s.hostProgram = .transaction (.bufWr a 1 b) :: rest ∧ (hostStep s).byteAt a = b := by
  rcases hostStep_cases s with ⟨-, hs⟩ | ⟨x, rest, hp, hs⟩ | ⟨rest, left, -, hs⟩ <;> rw [hs] at h ⊢
  · exact absurd rfl h
  · obtain ⟨hb, b, rfl, hbyte⟩ := transact_changes (x := x) h
    exact ⟨hb, b, rest, hp, hbyte⟩
  · exact absurd (regRd_byteAt _ _ _ _) h

theorem exec_changes {i : Instr} {a : Nat} {s t : State} (h : exec i s = .next t) (hne : t.byteAt a ≠ s.byteAt a) :
    i = .writePid ∨ i = .scanPatch ∨ i = .process := by
  rcases exec_cases h with ⟨-, -, rfl⟩ | ⟨-, rfl⟩ | ⟨-, -, rfl⟩
  · exact absurd rfl hne
  · exact absurd rfl hne
  · by_contra hi
    obtain ⟨h1, h2, h3⟩ : i ≠ .writePid ∧ i ≠ .scanPatch ∧ i ≠ .process := by simpa using hi
    refine hne (byteAt_congr (commandState_buf h1 h2 h3 s) ?_ a)
    rw [commandState_frame]

/-- Settles O45, by the turns that can change a byte: the host's buffer write, and the three writing commands. -/
theorem bufferBytesAreStableUntilWritten : Obligations.BufferBytesAreStableUntilWritten := by
  intro s t a hstep hreset hne
  rcases step_cases hstep with ⟨hturn, rfl⟩ | ⟨hturn, hb, i, hd, ht⟩ | ⟨-, -, -, rfl⟩ | ⟨-, -, rfl⟩ | ⟨hturn, -⟩
  · exact .inl ⟨hturn, hostStep_changes (s := s.popTurn) hne⟩
  · refine .inr ⟨hturn, hb, ?_⟩
    rw [eq_encode_of_decode hd]
    exact (exec_changes (s := s.popTurn) ht hne).imp (congrArg encode) (.imp (congrArg encode) (congrArg encode))
  · exact absurd rfl hne
  · exact absurd rfl hne
  · exact absurd hturn hreset

end Sys2Proof.Machine
end

section
/-! SUPPORT. Commands read the Patch Set through membership only (R28, R87). -/

namespace Sys2Proof.Machine

open Sys2Proof.Spec

/-- A state with another table of members. -/
def State.withTable (pt : Vector Pid 100) (n : Nat) (s : State) : State := { s with pt := pt, patchCount := n }

/-- What a scan leaves, with another table of members. -/
def Scanned.withTable (pt : Vector Pid 100) (n : Nat) (r : Scanned) : Scanned :=
  { r with state := r.state.withTable pt n }

/-- Another table with the same members. -/
def SameMembers (pt : Vector Pid 100) (n : Nat) (s : State) : Prop :=
  ∀ p, (s.withTable pt n).member p = s.member p

/-- Membership is R87's search of the table below N. -/
theorem member_eq_isMember (s : State) (p : Pid) : s.member p = isMember s p.toNat := by
  rw [Bool.eq_iff_iff]
  simp only [State.member, State.members, isMember, List.contains_iff_mem, List.mem_take_iff_getElem,
    decide_eq_true_iff, BitVec.toNat_inj, Vector.getElem_toList, Vector.length_toList, lt_min_iff]
  constructor
  · rintro ⟨k, ⟨hk, h100⟩, hp⟩
    exact ⟨⟨k, h100⟩, hk, hp⟩
  · rintro ⟨k, hk, hp⟩
    exact ⟨k.val, ⟨hk, k.isLt⟩, hp⟩

theorem sameMembers_of_isMember {pt : Vector Pid 100} {n : Nat} {s : State}
    (h : ∀ p, isMember (s.withTable pt n) p = isMember s p) : SameMembers pt n s := fun p => by
  rw [member_eq_isMember, member_eq_isMember, h]

section

variable {pt : Vector Pid 100} {n : Nat}

theorem sliceResult_withTable {r : Scanned} (h : SameMembers pt n r.state) (a : Nat) :
    sliceResult a (r.withTable pt n) = (sliceResult a r).withTable pt n := by
  have hbyte (c : Nat) : (r.withTable pt n).state.byteAt c = r.state.byteAt c := rfl
  have hmember (p : Pid) : (r.withTable pt n).state.member p = r.state.member p := h p
  simp only [sliceResult, hbyte, hmember]
  split
  · split <;> rfl
  · rfl

theorem slicesResult_withTable {r : Scanned} (h : SameMembers pt n r.state) (a k : Nat) :
    slicesResult a k (r.withTable pt n) = (slicesResult a k r).withTable pt n := by
  induction k generalizing a r with
  | zero => rfl
  | succ k ih =>
    have hnext : SameMembers pt n (sliceResult a r).state := by
      rw [sliceResult_frame]
      exact h
    rw [slicesResult, slicesResult, sliceResult_withTable h, ih hnext]

theorem commandState_withTable {s : State} (h : SameMembers pt n s) (i : Instr) :
    commandState i (s.withTable pt n) = (commandState i s).withTable pt n := by
  have hscan (a k : Nat) : slicesResult a k (scanStart (s.withTable pt n)) =
      (slicesResult a k (scanStart s)).withTable pt n := slicesResult_withTable (r := scanStart s) h a k
  cases i
  case member =>
    have hmember : (s.withTable pt n).member (s.withTable pt n).valueOp = s.member s.valueOp := h _
    rw [commandState, commandState, hmember]
    rfl
  case scanPatch =>
    rw [commandState, commandState, scanPatchState, scanPatchState, hscan]
    rfl
  case process =>
    rw [commandState, commandState, processState, processState, hscan]
    rfl
  all_goals rfl

theorem exec_withTable {s : State} (h : SameMembers pt n s) (i : Instr) :
    exec i (s.withTable pt n) = mapNext (State.withTable pt n) (exec i s) := by
  by_cases hl : needsLock i = true ∧ s.lock = false
  · obtain ⟨hi, hf⟩ := hl
    rw [exec_unlocked hi hf, exec_unlocked (s := s.withTable pt n) hi hf]
    rfl
  · have hl' : needsLock i = true → s.lock = true := by simpa using hl
    by_cases hw : windowTooLarge s i
    · rw [exec_range hl' hw, exec_range (s := s.withTable pt n) hl' hw]
      rfl
    · rw [exec_runs hl' hw, exec_runs (s := s.withTable pt n) hl' hw, commandState_withTable h]
      rfl

end

/-- Settles O20: the checks do not read the table, and the commands read it through membership. -/
theorem onlyTheSetOfMembersMatters : Obligations.OnlyTheSetOfMembersMatters :=
  fun i _ _ _ h => exec_withTable (sameMembers_of_isMember h) i

end Sys2Proof.Machine
end

section
/-! SUPPORT. A step as one equation per agent, and every agent's turn answers a next state (R39, R48, R118). -/

namespace Sys2Proof.Machine

open Sys2Proof.Spec

theorem step_engine {s : State} (h : s.turn = .engine) : step s = engineStep s.popTurn := by
  rw [step, move, h]

theorem step_host {s : State} (h : s.turn = .host) : step s = .next (hostStep s.popTurn) := by
  rw [step, move, h]

theorem step_reset {s : State} (h : s.turn = .reset) : step s = .next (resetBlock s.popTurn) := by
  rw [step, move, h]

theorem engineStep_of_decode {s : State} {i : Instr} (hb : s.busy = true) (hd : decode s.latchedCmd = .ok i) :
    engineStep s = exec i s := by
  rw [engineStep, if_pos hb, hd]

theorem engineStep_illegal {s : State} {e : DecodeError} (hb : s.busy = true) (hd : decode s.latchedCmd = .error e) :
    engineStep s = .next (raiseErr .illegal s) := by
  rw [engineStep, if_pos hb, hd]

theorem engineStep_idle {s : State} (hb : s.busy = false) : engineStep s = .next s := by
  rw [engineStep, if_neg (by simp [hb])]

/-- Every command ends in a next state, since its checks come before its buffer accesses (R48, R118). -/
theorem exec_total (i : Instr) (s : State) : ∃ t, exec i s = .next t := by
  by_cases hl : needsLock i = true ∧ s.lock = false
  · obtain ⟨hi, hf⟩ := hl
    exact ⟨_, exec_unlocked hi hf⟩
  · have hl' : needsLock i = true → s.lock = true := by simpa using hl
    by_cases hw : windowTooLarge s i
    · exact ⟨_, exec_range hl' hw⟩
    · exact ⟨_, exec_runs hl' hw⟩

theorem engineStep_total (s : State) : ∃ t, engineStep s = .next t := by
  cases hb : s.busy with
  | false => exact ⟨_, engineStep_idle hb⟩
  | true =>
    cases hd : decode s.latchedCmd with
    | error e => exact ⟨_, engineStep_illegal hb hd⟩
    | ok i => rw [engineStep_of_decode hb hd]; exact exec_total i s

/-- Settles O40, by whose turn it is. -/
theorem everyStepHasANextState : Obligations.EveryStepHasANextState := by
  intro s
  cases hturn : s.turn with
  | host => exact ⟨_, step_host hturn⟩
  | reset => exact ⟨_, step_reset hturn⟩
  | engine => rw [step_engine hturn]; exact engineStep_total _

theorem decode_tableWord {nbits w : Nat} {i : Instr} (h : decodeTableWord nbits w = some i) :
    decode (tableWord nbits w) = .ok i := by
  unfold decodeTableWord at h
  split at h
  · next hd => cases h; exact hd
  · cases h

/-- Taking the turn that `withCommand` scheduled leaves the accepted command (R66). -/
theorem popTurn_withCommand (w : Word) (s : State) : (s.withCommand w).popTurn = acceptCmd w s := rfl

/-- Settles O5: the scheduled turn is the engine's, and the word it finds latched is the placed one. -/
theorem placedCommandRunsNext : Obligations.PlacedCommandRunsNext := by
  intro s nbits w i h
  have hturn : (s.withFetchWord nbits w).turn = .engine := rfl
  have hrun : engineStep (acceptCmd (tableWord nbits w) s) = exec i (acceptCmd (tableWord nbits w) s) :=
    engineStep_of_decode rfl (decode_tableWord h)
  rw [step_engine hturn, State.withFetchWord, popTurn_withCommand, hrun]
  rfl

end Sys2Proof.Machine
end

section
/-! SUPPORT. The host's turn: what it leaves alone while a command is in flight (R46, R52, R133), and the operation it
performs (R45, R51, R65). -/

namespace Sys2Proof.Machine

/-- Settles O46: the turn passes, or performs one transaction, which meets BUSY = 1. -/
theorem hostTurnsNeverDisturbTheCommandInFlight : Obligations.HostTurnsNeverDisturbTheCommandInFlight := by
  intro s t hb hturn hstep
  cases (step_host hturn).symm.trans hstep
  rcases nextTransaction_host hturn with ⟨-, hs⟩ | ⟨x, left, -, hs⟩ <;> rw [hs]
  · rfl
  · rw [perform, transact_busy_frame (s := s.popTurn) hb]
    rfl

theorem unlessBusy_popTurn {write : State → State} {s : State} (h : write s.popTurn = (write s).popTurn) :
    unlessBusy write s.popTurn = (unlessBusy write s).popTurn := by
  cases hb : s.busy with
  | true => rw [unlessBusy_busy hb, unlessBusy_busy (s := s.popTurn) hb]; rfl
  | false => rw [unlessBusy_idle hb, unlessBusy_idle (s := s.popTurn) hb, h]

theorem pushPid_popTurn (w : Word) (s : State) : pushPid w s.popTurn = (pushPid w s).popTurn := by
  unfold pushPid
  rw [popTurn_lock, popTurn_patchCount]
  split <;> rfl

theorem writeReg_popTurn (r : Reg) (w : Word) (s : State) : writeReg r w s.popTurn = (writeReg r w s).popTurn := by
  cases r <;> simp only [writeReg]
  case err => rfl
  case patchPush => exact unlessBusy_popTurn (pushPid_popTurn w s)
  all_goals exact unlessBusy_popTurn rfl

theorem regWr_popTurn (off : BitVec 12) (width : Nat) (w : Word) (s : State) :
    regWr off width w s.popTurn = (regWr off width w s).popTurn := by
  unfold regWr
  split
  · rfl
  · exact writeReg_popTurn _ w s

theorem regRd_popTurn (off : BitVec 12) (width : Nat) (s : State) :
    regRd off width s.popTurn = ((regRd off width s).1, (regRd off width s).2.popTurn) := by
  unfold regRd
  split
  · rfl
  · next r _ =>
    rw [popTurn_busy]
    split
    · rfl
    · cases r <;> rfl

theorem bufRd_popTurn (a width : Nat) (s : State) :
    bufRd a width s.popTurn = ((bufRd a width s).1, (bufRd a width s).2.popTurn) := by
  unfold bufRd
  rw [popTurn_busy]
  repeat' split
  all_goals rfl

theorem bufWr_popTurn (a width : Nat) (b : Byte) (s : State) :
    bufWr a width b s.popTurn = (bufWr a width b s).popTurn := by
  unfold bufWr
  split
  · exact unlessBusy_popTurn rfl
  · rfl

/-- No transaction reads or writes the schedule (log 1). -/
theorem transact_popTurn (x : Transaction) (s : State) :
    transact x s.popTurn = ((transact x s).1, (transact x s).2.popTurn) := by
  cases x <;> simp only [transact]
  case regRd => rw [regRd_popTurn]
  case regWr => rw [regWr_popTurn]
  case bufRd => rw [bufRd_popTurn]
  case bufWr => rw [bufWr_popTurn]

/-- A performed transaction works on the block as it was before the turn was taken. -/
theorem perform_popTurn (x : Transaction) (rest : List HostOp) (s : State) :
    perform x rest s.popTurn =
      { (transact x s).2 with
        schedule := s.schedule.tail, hostProgram := rest, observed := record (transact x s).1 s.observed } := by
  rw [perform, transact_popTurn, transact_frame]
  rfl

theorem step_transaction {s : State} {x : Transaction} {rest : List HostOp} (hturn : s.turn = .host)
    (hp : s.hostProgram = .transaction x :: rest) : step s = .next (perform x rest s.popTurn) := by
  rw [step_host hturn, hostStep, popTurn_hostProgram, hp]

/-- Bit 0 of STATUS is BUSY (R22). -/
theorem statusWord_busy (s : State) : s.statusWord.getLsbD 0 = s.busy := by
  rw [State.statusWord, BitVec.getLsbD_setWidth, BitVec.getLsbD_append]
  simp

/-- A STATUS read is exact, busy or not (R99). -/
theorem regRd_status (s : State) : regRd Reg.status.offset 4 s = (s.statusWord, s) := by
  simp [regRd, regAccess, regAt_offset, Reg.volatile, State.readReg]

theorem step_poll {s : State} {rest : List HostOp} (hturn : s.turn = .host) (hp : s.hostProgram = .poll :: rest) :
    step s =
      .next (perform (.regRd Reg.status.offset 4) (if s.busy then .poll :: rest else rest) s.popTurn) := by
  rw [step_host hturn, hostStep, popTurn_hostProgram, hp]
  simp only [regRd_status, statusWord_busy, popTurn_busy]

/-- Settles O38, by the kinds of host operation. -/
theorem hostTurnPerformsTheNextOperation : Obligations.HostTurnPerformsTheNextOperation := by
  intro s rest hsched
  have hturn := turn_host hsched
  refine ⟨fun off width hp => ?_, fun off width w hp => ?_, fun a width hp => ?_, fun a width b hp => ?_, fun hp => ?_⟩
  · rw [step_transaction hturn hp, perform_popTurn]
    rfl
  · rw [step_transaction hturn hp, perform_popTurn, transact, regWr_frame]
    rfl
  · rw [step_transaction hturn hp, perform_popTurn]
    rfl
  · rw [step_transaction hturn hp, perform_popTurn, transact, bufWr_frame]
    rfl
  · have hread : regRd 0x00C 4 s = (s.statusWord, s) := regRd_status s
    rw [step_poll hturn hp, perform_popTurn, transact, regRd_status, hread]
    rfl

end Sys2Proof.Machine
end

section
/-! SUPPORT. Accesses that reach nothing (R42, R43, R116). -/

namespace Sys2Proof.Machine

open Sys2Proof.Spec

theorem regAccess_eq_none {off : BitVec 12} {width : Nat} (h : ¬ (width = 4 ∧ mapped off)) :
    regAccess off width = none := by
  unfold regAccess
  split
  · next hw =>
    rw [← Option.not_isSome_iff_eq_none, regAt_isSome_iff]
    exact fun hm => h ⟨hw, hm⟩
  · rfl

theorem bufAccess_eq_false {a width : Nat} (h : ¬ (width = 1 ∧ a < 1400)) : bufAccess a width = false :=
  decide_eq_false h

/-- Settles O36: all four transactions test the access first. -/
theorem badAccessesOnlySetBus : Obligations.BadAccessesOnlySetBus := by
  intro off a width w b s
  refine ⟨fun h => ?_, fun h => ?_⟩
  · simp only [transact, regRd, regWr, regAccess_eq_none h]
    exact ⟨rfl, rfl⟩
  · simp only [transact, bufRd, bufWr, bufAccess_eq_false h]
    exact ⟨rfl, rfl⟩

end Sys2Proof.Machine
end

section
/-! SUPPORT. The poll monitor along a run: while a command is in flight the host owes a poll (R135). -/

namespace Sys2Proof.Machine

/-- A run's state with the monitor's answer to whether the host owes a poll there: no unspecified read has happened, the
host owes a poll while a command is in flight, and it polls from here on. -/
def PollingFrom (owes : Bool) (s : State) : Prop :=
  s.draws = 0 ∧ (s.busy = true → owes = true) ∧ ∀ k, pollsFor k owes s = true

/-- A read draws only while BUSY = 1, and only one that needs the poll (R134, R135). -/
theorem transact_draws {x : Transaction} {s : State} (h : s.busy = true → needsPoll x = false) :
    (transact x s).2.draws = s.draws := by
  cases x <;> simp only [transact, needsPoll] at h ⊢
  case regRd off width =>
    unfold regRd
    split
    · rfl
    · next r hr =>
      rw [hr] at h
      rw [if_neg (by simpa using h)]
  case regWr => rw [regWr_frame]
  case bufRd a width =>
    unfold bufRd
    split
    · next hin => rw [if_neg (fun hb => absurd (hin.symm.trans (h hb)) nofun)]
    · rfl
  case bufWr => rw [bufWr_frame]

theorem unlessBusy_keeps_busy {write : State → State} {s : State} (h : (write s).busy = s.busy) :
    (unlessBusy write s).busy = s.busy := by
  unfold unlessBusy
  split
  · rfl
  · exact h

theorem pushPid_busy (w : Word) (s : State) : (pushPid w s).busy = s.busy := by
  rcases pushPid_cases w s with ⟨hs, -⟩ | ⟨-, -, -, hs⟩ <;> rw [hs]
  rfl

theorem writeReg_busy {r : Reg} (h : r ≠ .cmd) (w : Word) (s : State) : (writeReg r w s).busy = s.busy := by
  cases r <;> simp only [writeReg]
  case cmd => exact absurd rfl h
  case err => rfl
  case patchPush => exact unlessBusy_keeps_busy (pushPid_busy w s)
  all_goals exact unlessBusy_keeps_busy rfl

/-- A register write that leaves BUSY = 1 found it so or was a write of CMD (R66). -/
theorem regWr_busy {off : BitVec 12} {width : Nat} {w : Word} {s : State} (h : (regWr off width w s).busy = true) :
    s.busy = true ∨ regAccess off width = some .cmd := by
  unfold regWr at h
  split at h
  · exact .inl h
  · next r hr =>
    by_cases hcmd : r = .cmd
    · exact .inr (hr.trans (congrArg some hcmd))
    · exact .inl ((writeReg_busy hcmd w s).symm.trans h)

/-- A host that owes a poll while BUSY = 1 before a transaction does so after it (R135). -/
theorem owesAfter_of_busy {x : Transaction} {s : State} {owes : Bool} (howes : s.busy = true → owes = true)
    (h : (transact x s).2.busy = true) : owesAfter x s owes = true := by
  cases x <;> simp only [transact, owesAfter] at h ⊢
  case regRd =>
    rw [regRd_frame] at h
    have hb : s.busy = true := h
    simp [hb, howes hb]
  case regWr =>
    rcases regWr_busy h with hb | hcmd
    · simp [howes hb]
    · simp [hcmd]
  case bufRd => rw [bufRd_frame] at h; exact howes h
  case bufWr => rw [bufWr_frame] at h; exact howes h

/-- A command ends with BUSY = 0 and takes no draw (R71). -/
theorem exec_busy_draws {i : Instr} {s t : State} (h : exec i s = .next t) : t.busy = false ∧ t.draws = s.draws := by
  rcases exec_cases h with ⟨-, -, rfl⟩ | ⟨-, rfl⟩ | ⟨-, -, rfl⟩
  · exact ⟨rfl, rfl⟩
  · exact ⟨rfl, rfl⟩
  · refine ⟨?_, by rw [commandState_frame]⟩
    cases i <;> rfl

/-- Each step keeps the account, with the monitor's next answer. -/
theorem PollingFrom.step {owes : Bool} {s t : State} (h : PollingFrom owes s) (hstep : step s = .next t) :
    PollingFrom (s.nextTransaction.elim owes fun x => owesAfter x s owes) t := by
  obtain ⟨hdraws, howes, hpolls⟩ := h
  have hkept : owes = true → ∀ x, s.nextTransaction = some x → needsPoll x = false :=
    (pollsFor_succ hstep (hpolls 1)).1
  rw [PollingFrom, ← and_assoc]
  refine ⟨?_, fun k => (pollsFor_succ hstep (hpolls (k + 1))).2⟩
  rcases step_cases hstep with ⟨hturn, rfl⟩ | ⟨-, -, i, -, ht⟩ | ⟨-, -, -, rfl⟩ | ⟨-, hb, rfl⟩ | ⟨-, rfl⟩
  · rcases nextTransaction_host hturn with ⟨hx, hs⟩ | ⟨x, left, hx, hs⟩ <;> rw [hs, hx]
    · exact ⟨hdraws, howes⟩
    · refine ⟨(transact_draws (s := s.popTurn) fun hb => hkept (howes hb) x hx).trans hdraws, fun hb => ?_⟩
      exact owesAfter_of_busy (s := s.popTurn) howes hb
  · obtain ⟨hb, hd⟩ := exec_busy_draws ht
    exact ⟨hd.trans hdraws, fun hb' => absurd (hb.symm.trans hb') nofun⟩
  · exact ⟨hdraws, nofun⟩
  · exact ⟨hdraws, fun hb' => absurd (hb.symm.trans hb') nofun⟩
  · exact ⟨hdraws, nofun⟩

theorem PollingFrom.run {k : Nat} {owes : Bool} {s t : State} (h : PollingFrom owes s)
    (hrun : Sys2Proof.core.run k s = .next t) : ∃ owes', PollingFrom owes' t := by
  induction k generalizing owes s with
  | zero => cases hrun; exact ⟨owes, h⟩
  | succ k ih =>
    obtain ⟨u, hu⟩ := everyStepHasANextState s
    exact ih (h.step hu) ((run_succ Sys2Proof.core hu k).symm.trans hrun)

/-- Where a host that polls performs what needs the poll, no command is in flight (R135). -/
theorem PollingFrom.idle {owes : Bool} {s : State} (h : PollingFrom owes s) {x : Transaction}
    (hx : s.nextTransaction = some x) (hneeds : needsPoll x = true) : s.busy = false := by
  obtain ⟨-, howes, hpolls⟩ := h
  obtain ⟨t, ht⟩ := everyStepHasANextState s
  by_contra hb
  have hfree := (pollsFor_succ ht (hpolls 1)).1 (howes (by simpa using hb)) x hx
  exact absurd (hneeds.symm.trans hfree) nofun

/-- Settles O51: the launch state owes no poll, and every step keeps the monitor's account. -/
theorem pollingHostMeetsNoBusyBlock : Obligations.PollingHostMeetsNoBusyBlock := by
  intro program turns k t hpolls hrun
  have hlaunch : PollingFrom false (launch program turns) := ⟨rfl, nofun, hpolls⟩
  obtain ⟨owes, ht⟩ := hlaunch.run hrun
  exact ⟨ht.1, fun _ => ht.idle⟩

end Sys2Proof.Machine
end

section
/-! SUPPORT. The command words: decoding and encoding are inverse to each other, and the words that decode are the legal
ones (R58, R59, R61). -/

namespace Sys2Proof.Machine

open Sys2Proof.Spec

@[simp] theorem decode_encode (i : Instr) : decode (encode i) = .ok i := by
  cases i <;> rfl

theorem decode_eq_ok_iff {w : Word} {i : Instr} : decode w = .ok i ↔ w = encode i :=
  ⟨eq_encode_of_decode, fun h => h ▸ decode_encode i⟩

/-- Settles O2: the decoder reads back every command's word, and no other word decodes to that command. -/
theorem decodeAndEncodeAgree : Obligations.DecodeAndEncodeAgree :=
  fun _ _ _ => decode_eq_ok_iff

/-- Settles O1: five of the words are commands' own, and the other two break R61 in one field each. -/
theorem sampleWordsDecodeAsTheTableSays : Obligations.SampleWordsDecodeAsTheTableSays := by
  refine ⟨decode_encode .nop, decode_encode .readPid, decode_encode .resolve, decode_encode .scanPatch,
    decode_encode .process, ?_, ?_⟩
  · decide
  · decide

theorem encode_toNat_lt (i : Instr) : (encode i).toNat < 8 := by
  cases i <;> decide

/-- Every number below 8 is a command's word (R59). -/
theorem exists_encode_toNat_eq : ∀ {n : Nat}, n < 8 → ∃ i, (encode i).toNat = n
  | 0, _ => ⟨.nop, rfl⟩
  | 1, _ => ⟨.readPid, rfl⟩
  | 2, _ => ⟨.writePid, rfl⟩
  | 3, _ => ⟨.isSynced, rfl⟩
  | 4, _ => ⟨.resolve, rfl⟩
  | 5, _ => ⟨.member, rfl⟩
  | 6, _ => ⟨.scanPatch, rfl⟩
  | 7, _ => ⟨.process, rfl⟩
  | _ + 8, h => absurd h (by omega)

/-- The words that decode to a command are the eight below 8: OP below 8 and RSV equal to 0 (R61). -/
theorem exists_decode_eq_ok_iff {w : Word} : (∃ i, decode w = .ok i) ↔ w.toNat < 8 := by
  simp only [decode_eq_ok_iff]
  constructor
  · rintro ⟨i, rfl⟩
    exact encode_toNat_lt i
  · intro h
    obtain ⟨i, hi⟩ := exists_encode_toNat_eq h
    exact ⟨i, BitVec.eq_of_toNat_eq hi.symm⟩

/-- Settles O3: a word that breaks R61 is 8 or more, so it decodes to no command; any other is below 8. -/
theorem illegalWordRaisesIllegalAndNothingElse : Obligations.IllegalWordRaisesIllegalAndNothingElse := by
  intro s hb
  constructor
  · intro hw
    cases hd : decode s.latchedCmd with
    | error e => exact engineStep_illegal hb hd
    | ok i =>
      have hlt := exists_decode_eq_ok_iff.1 ⟨i, hd⟩
      omega
  · intro hop hrsv
    have hlt : s.latchedCmd.toNat < 8 := by omega
    obtain ⟨i, hd⟩ := exists_decode_eq_ok_iff.2 hlt
    exact ⟨i, hd, engineStep_of_decode hb hd⟩

end Sys2Proof.Machine
end

section
/-! SUPPORT. The lines that write a run of buffer bytes, and the two PID bytes of `tshdr` (R65). -/

namespace Sys2Proof.Machine

theorem writeBlock_eq_mapIdx (addr : Nat) (bytes : List Byte) :
    writeBlock addr bytes = bytes.mapIdx fun j b => bufWrite (addr + j) b := by
  induction bytes generalizing addr with
  | nil => rfl
  | cons b rest ih => simp [writeBlock, ih, Nat.add_assoc, Nat.add_comm 1]

@[simp] theorem length_writeBlock (addr : Nat) (bytes : List Byte) : (writeBlock addr bytes).length = bytes.length := by
  simp [writeBlock_eq_mapIdx]

theorem getElem?_writeBlock (addr : Nat) {bytes : List Byte} {j : Nat} (h : j < bytes.length) :
    (writeBlock addr bytes)[j]? = some (bufWrite (addr + j) bytes[j]) := by
  simp [writeBlock_eq_mapIdx, h]

theorem expand_tshdr (addr pid : Nat) :
    (HostLine.tshdr addr pid).expand =
      writeBlock addr [0x47, BitVec.ofNat 8 (pid / 256 % 32), BitVec.ofNat 8 (pid % 256), 0x10] := by
  have hhigh : pid >>> 8 &&& 0x1F = pid / 256 % 32 := by
    rw [Nat.shiftRight_eq_div_pow]
    exact Nat.and_two_pow_sub_one_eq_mod _ 5
  have hlow : pid &&& 0xFF = pid % 256 := Nat.and_two_pow_sub_one_eq_mod _ 8
  rw [HostLine.expand, hhigh, hlow]

/-- Settles O39: `wblk` and `fill` write their bytes one by one, `tshdr` is a block of four, and the other lines are
R64's and R65's as they stand. -/
theorem pseudoInstructionsExpandToTransactions : Obligations.PseudoInstructionsExpandToTransactions := by
  intro i r off w addr n pid b bytes pids
  have hfill : ∀ j, j < n →
      (HostLine.fill addr n b).expand[j]? = some (.transaction (.bufWr (addr + j) 1 b)) := by
    intro j hj
    have hj' : j < (List.replicate n b).length := by simpa using hj
    rw [HostLine.expand, getElem?_writeBlock addr hj', List.getElem_replicate]
    rfl
  refine ⟨rfl, rfl, rfl, rfl, rfl, rfl, rfl, rfl, rfl, length_writeBlock addr bytes,
    fun j => getElem?_writeBlock addr, ?_, hfill, expand_tshdr addr pid, rfl, rfl, rfl⟩
  exact (length_writeBlock addr _).trans List.length_replicate

end Sys2Proof.Machine
end

section
/-! SUPPORT. The command cycle (R66 to R73): acceptance, the engine's step on the latched command, what each command may
write, and the completion of every command in flight. -/

namespace Sys2Proof.Machine

/-- What SCAN_PATCH leaves differs from the state before it in the columns of its row of R72 only. -/
theorem scanPatchState_frame (s : State) :
    scanPatchState s =
      complete { s with
        buf := (scanPatchState s).buf, resPatched := (scanPatchState s).resPatched
        resSyncErr := (scanPatchState s).resSyncErr, cntPkt := (scanPatchState s).cntPkt
        cntPatch := (scanPatchState s).cntPatch, cntSyncErr := (scanPatchState s).cntSyncErr
        err := (scanPatchState s).err } := by
  rw [scanPatchState, writeScanned, slicesResult_frame]
  rfl

/-- What PROCESS leaves differs from the state before it in the columns of its row of R72 only. -/
theorem processState_frame (s : State) :
    processState s =
      complete { s with
        buf := (processState s).buf, resCount := (processState s).resCount, resOffset := (processState s).resOffset
        resEncap := (processState s).resEncap, resPatched := (processState s).resPatched
        resSyncErr := (processState s).resSyncErr, cntDgram := (processState s).cntDgram
        cntPkt := (processState s).cntPkt, cntPatch := (processState s).cntPatch
        cntSyncErr := (processState s).cntSyncErr, err := (processState s).err } := by
  rw [processState, writeScanned, slicesResult_frame]
  rfl

/-- Settles O25: a command that raises an error completes with ERR alone changed, and NOP, which may not write ERR, raises
none; a command that runs leaves `commandState`. -/
theorem commandsWriteOnlyTheirColumns : Obligations.CommandsWriteOnlyTheirColumns := by
  intro i s
  obtain ⟨t, ht⟩ := exec_total i s
  refine ⟨t, ht, ?_⟩
  rcases exec_cases ht with ⟨hlock, -, rfl⟩ | ⟨hwindow, rfl⟩ | ⟨-, -, rfl⟩
  · cases i
    case nop => cases hlock
    all_goals rfl
  · cases i
    case nop => exact hwindow.elim
    all_goals rfl
  · cases i
    case scanPatch => exact scanPatchState_frame s
    case process => exact processState_frame s
    all_goals rfl

/-- Every command ends with BUSY = 0 and DONE = 1, whether or not it raises an error (R71, R117). -/
theorem exec_completes {i : Instr} {s t : State} (h : exec i s = .next t) : t.busy = false ∧ t.done = true := by
  refine ⟨(exec_busy_draws h).1, ?_⟩
  rcases exec_cases h with ⟨-, -, rfl⟩ | ⟨-, rfl⟩ | ⟨-, -, rfl⟩
  · rfl
  · rfl
  · cases i <;> rfl

theorem engineStep_completes {s : State} (hb : s.busy = true) :
    ∃ t, engineStep s = .next t ∧ t.busy = false ∧ t.done = true := by
  cases hd : decode s.latchedCmd with
  | error e => exact ⟨_, engineStep_illegal hb hd, rfl, rfl⟩
  | ok i =>
    obtain ⟨t, ht⟩ := exec_total i s
    exact ⟨t, (engineStep_of_decode hb hd).trans ht, exec_completes ht⟩

/-- A run of the one step in which the engine completes the command in flight (R67, R71). -/
theorem run_one_completes {s : State} (hb : s.busy = true) (hturn : s.turn = .engine) :
    ∃ t, Sys2Proof.core.run 1 s = .next t ∧ t.busy = false ∧ t.done = true := by
  obtain ⟨t, ht, hdone⟩ := engineStep_completes (s := s.popTurn) hb
  exact ⟨t, run_succ Sys2Proof.core ((step_engine hturn).trans ht) 0, hdone⟩

theorem hostStep_schedule (s : State) : (hostStep s).schedule = s.schedule := by
  rcases hostStep_cases s with ⟨-, hs⟩ | ⟨x, rest, -, hs⟩ | ⟨rest, left, -, hs⟩ <;> rw [hs]
  · rw [perform, transact_frame]
  · rw [perform, transact_frame]

/-- A host turn leaves the command in flight and takes one turn off the schedule (R46, R52). -/
theorem step_host_busy {s : State} (hb : s.busy = true) (hturn : s.turn = .host) :
    ∃ t, step s = .next t ∧ t.busy = true ∧ t.schedule = s.schedule.tail := by
  have hstep := step_host hturn
  refine ⟨_, hstep, ?_, hostStep_schedule s.popTurn⟩
  rw [hostTurnsNeverDisturbTheCommandInFlight s _ hb hturn hstep]
  exact hb

/-- Settles O7, by induction on the turns scheduled: the engine's turn, a reset or the end of the schedule ends the
command, and a host turn leaves it in flight with one turn fewer to come. -/
theorem acceptedCommandCompletes : Obligations.AcceptedCommandCompletes := by
  intro s hb
  generalize hsched : s.schedule = turns
  induction turns generalizing s with
  | nil =>
    obtain ⟨t, hrun, hidle, hdone⟩ := run_one_completes hb (turn_engine (.inr ⟨hsched, hb⟩))
    exact ⟨1, t, by simp, hrun, hidle, fun _ => hdone⟩
  | cons turn rest ih =>
    have hturn : s.turn = turn := by rw [State.turn, hsched]
    cases turn with
    | engine =>
      obtain ⟨t, hrun, hidle, hdone⟩ := run_one_completes hb hturn
      exact ⟨1, t, by simp, hrun, hidle, fun _ => hdone⟩
    | reset =>
      have hrun := run_succ Sys2Proof.core (step_reset hturn) 0
      exact ⟨1, _, by simp, hrun, rfl, fun hnone => absurd List.mem_cons_self hnone⟩
    | host =>
      obtain ⟨u, hstep, hbusy, hrest⟩ := step_host_busy hb hturn
      rw [hsched, List.tail_cons] at hrest
      obtain ⟨k, t, hk, hrun, hidle, hdone⟩ := ih u hbusy hrest
      have hrun' := (run_succ Sys2Proof.core hstep k).trans hrun
      refine ⟨k + 1, t, by simpa using hk, hrun', hidle, fun hnone => hdone fun hmem => ?_⟩
      exact hnone (List.mem_cons_of_mem _ hmem)

/-- Settles O4: both schedules give the engine the turn, and taking it off leaves BUSY and LATCHED_CMD as they were. -/
theorem stepExecutesTheLatchedCommand : Obligations.StepExecutesTheLatchedCommand := by
  intro s i hb hd hsched
  have hturn : s.turn = .engine := turn_engine (hsched.symm.imp_right fun h => ⟨h, hb⟩)
  exact (step_engine hturn).trans (engineStep_of_decode hb hd)

/-- Settles O6: offset 0x014 is CMD's, and a write of CMD is one that BUSY = 1 forbids. -/
theorem cmdWriteIsAcceptedOrDropped : Obligations.CmdWriteIsAcceptedOrDropped := by
  intro w s
  have hwrite : regWr 0x014 4 w s = unlessBusy (acceptCmd w) s := regWr_offset .cmd w s
  rw [hwrite]
  exact ⟨fun hidle => unlessBusy_idle hidle _, fun hbusy => unlessBusy_busy hbusy _⟩

/-- Settles O8: NOP needs no lock and has no window, so it always runs. -/
theorem nopOnlyCompletes : Obligations.NopOnlyCompletes :=
  ⟨decode_encode .nop, fun _ => exec_runs nofun id⟩

theorem hostStep_nil {s : State} (h : s.hostProgram = []) : hostStep s = s := by
  rw [hostStep, h]

/-- Settles O47, by whose turn it is: either agent's turn passes. -/
theorem idleBlockKeepsItsState : Obligations.IdleBlockKeepsItsState := by
  intro s t hidle hreset hnothing hstep
  cases hturn : s.turn with
  | reset => exact absurd hturn hreset
  | engine => cases hstep.symm.trans ((step_engine hturn).trans (engineStep_idle hidle)); rfl
  | host =>
    have hprogram : s.hostProgram = [] := hnothing.resolve_left (by simp [hturn])
    cases hstep.symm.trans ((step_host hturn).trans (congrArg _ (hostStep_nil (s := s.popTurn) hprogram)))
    rfl

end Sys2Proof.Machine
end

section
/-! SUPPORT. The codec commands (R77 to R80): the bytes WRITE_PID leaves, as bytes and as numbers, and what READ_PID
finds in them. -/

namespace Sys2Proof.Machine

open Sys2Proof.Spec

/-- The PID field of a header, as RES_VALUE holds it, is the number of R75. -/
theorem pidField_setWidth (s : State) (o : Nat) :
    (pidField (s.byteAt (o + 1)) (s.byteAt (o + 2))).setWidth 16 = BitVec.ofNat 16 (pidAt s o) := by
  rw [← BitVec.ofNat_toNat, pidField_toNat, pidAt]

theorem writePidState_high (s : State) :
    (writePidState s).byteAt (s.argOffset.toNat + 1) =
      pidHighByte (s.byteAt (s.argOffset.toNat + 1)) s.valueOp := by
  rw [writePidState, complete_byteAt, withPid_high, BitVec.ofNat_toNat, BitVec.setWidth_eq]

theorem writePidState_low (s : State) :
    (writePidState s).byteAt (s.argOffset.toNat + 2) = pidLowByte s.valueOp := by
  rw [writePidState, complete_byteAt, withPid_low, BitVec.ofNat_toNat, BitVec.setWidth_eq]

theorem writePidState_high_toNat (s : State) :
    ((writePidState s).byteAt (s.argOffset.toNat + 1)).toNat =
      (s.byteAt (s.argOffset.toNat + 1)).toNat / 32 * 32 + s.argValue.toNat % 8192 / 256 := by
  rw [writePidState_high, pidHighByte_toNat, valueOp_toNat]

theorem writePidState_low_toNat (s : State) :
    ((writePidState s).byteAt (s.argOffset.toNat + 2)).toNat = s.argValue.toNat % 256 := by
  rw [writePidState_low, pidLowByte_toNat, valueOp_toNat]
  exact Nat.mod_mod_of_dvd _ (by decide)

/-- WRITE_PID keeps every byte but the two that hold the PID bits (R79). -/
theorem writePidState_other {s : State} {a : Nat} (h1 : a ≠ s.argOffset.toNat + 1) (h2 : a ≠ s.argOffset.toNat + 2) :
    (writePidState s).byteAt a = s.byteAt a := by
  rw [writePidState, complete_byteAt, withPid_other h1 h2]

/-- READ_PID after WRITE_PID finds the value operand, since WRITE_PID keeps ARG_OFFSET (R77). -/
theorem readPidState_writePidState_resValue (s : State) :
    (readPidState (writePidState s)).resValue = s.valueOp.setWidth 16 := by
  have hoffset : (writePidState s).argOffset = s.argOffset := rfl
  rw [readPidState, complete_resValue, hoffset, writePidState_high, writePidState_low, pidField_written]

/-- Settles O10: the bytes are those of `writePidState`, and RANGE is the only error WRITE_PID can raise. -/
theorem writePidChangesOnlyThePidBits : Obligations.WritePidChangesOnlyThePidBits := by
  refine ⟨decode_encode .writePid, fun s => ⟨fun hfits => ?_, fun hlong => exec_range nofun hlong⟩⟩
  exact ⟨writePidState s, exec_runs nofun (Nat.not_lt.2 hfits), rfl, writePidState_high_toNat s,
    writePidState_low_toNat s, fun _ => writePidState_other⟩

/-- Settles O12: the header reads back the operand, and the PID's five high bits lie below bits [7:5]. -/
theorem readPidAfterWritePidGivesTheMaskedValue : Obligations.ReadPidAfterWritePidGivesTheMaskedValue := by
  intro s hfits
  refine ⟨writePidState s, readPidState (writePidState s), exec_runs nofun (Nat.not_lt.2 hfits),
    exec_runs nofun (Nat.not_lt.2 hfits), ?_, ?_⟩
  · rw [readPidState_writePidState_resValue, BitVec.toNat_setWidth, valueOp_toNat]
    omega
  · rw [writePidState_high_toNat]
    omega

/-- Settles O9: a window that fits leaves `readPidState`, whose result is the number in the PID bits. -/
theorem readPidReturnsTheHeaderPid : Obligations.ReadPidReturnsTheHeaderPid := by
  refine ⟨decode_encode .readPid, fun s => ⟨fun hfits => ?_, fun hlong => exec_range nofun hlong⟩⟩
  rw [← pidField_setWidth]
  exact exec_runs nofun (Nat.not_lt.2 hfits)

/-- Settles O11: a window that fits leaves `isSyncedState`, which tests the byte as the statement does. -/
theorem isSyncedTestsTheSyncByte : Obligations.IsSyncedTestsTheSyncByte :=
  ⟨decode_encode .isSynced, fun _ =>
    ⟨fun hfits => exec_runs nofun (Nat.not_lt.2 hfits), fun hlong => exec_range nofun hlong⟩⟩

end Sys2Proof.Machine
end

section
/-! SUPPORT. The resolver (R81 to R86): the three registers as quotient, remainder and class of the length, and PROCESS of
a datagram without a whole packet. -/

namespace Sys2Proof.Machine

open Sys2Proof.Spec

/-- The resolved registers in the arithmetic of R81 and R85. -/
theorem writeResolved_eq (len : Nat) (s : State) :
    writeResolved len s = { s with
      resCount := BitVec.ofNat 16 (len / 188)
      resOffset := BitVec.ofNat 16 (len % 188)
      resEncap := prefixClass (len % 188) } := by
  rw [writeResolved, prefixOffset_eq]
  rfl

theorem writeResolved_resCount_toNat {len : Nat} (h : len ≤ 1400) (s : State) :
    (writeResolved len s).resCount.toNat = len / 188 := by
  rw [writeResolved_resCount, packetCount_eq, BitVec.toNat_ofNat]
  omega

theorem writeResolved_resOffset_toNat (len : Nat) (s : State) :
    (writeResolved len s).resOffset.toNat = len % 188 := by
  rw [writeResolved_resOffset, prefixOffset_eq, BitVec.toNat_ofNat]
  omega

/-- A prefix p below the packet length is what RESOLVE finds before k whole packets (R84). -/
theorem writeResolved_of_parts {len k p : Nat} (hlen : len ≤ 1400) (hparts : len = 188 * k + p) (hp : p < 188)
    (s : State) :
    (writeResolved len s).resCount.toNat = k ∧ (writeResolved len s).resOffset = BitVec.ofNat 16 p ∧
      (writeResolved len s).resEncap = prefixClass p := by
  have hprefix : len % 188 = p := by omega
  refine ⟨?_, ?_, ?_⟩
  · rw [writeResolved_resCount_toNat hlen]
    omega
  · rw [writeResolved_eq, hprefix]
  · rw [writeResolved_eq, hprefix]

theorem exec_resolve_fits {s : State} (h : s.length.toNat ≤ 1400) :
    exec .resolve s = .next (complete (writeResolved s.length.toNat s)) :=
  exec_runs nofun (Nat.not_lt.2 h)

/-- Settles O14: quotient and remainder by 188 determine the length, and those of 188 k and of 188 k + 12 are k with 0 and
k with 12. -/
theorem resolvedPartsAddUpToTheLength : Obligations.ResolvedPartsAddUpToTheLength := by
  intro s hlen
  refine ⟨_, exec_resolve_fits hlen, ?_⟩
  simp only [complete_resCount, complete_resOffset, complete_resEncap]
  have hcount := writeResolved_resCount_toNat hlen s
  have hoffset := writeResolved_resOffset_toNat s.length.toNat s
  refine ⟨by omega, by omega, by omega, fun k hk => ?_, fun k hk => ?_⟩
  · exact writeResolved_of_parts (p := 0) hlen hk (by decide) s
  · exact writeResolved_of_parts (p := 12) hlen hk (by decide) s

/-- A counter that nothing is added to keeps its value (R88). -/
theorem satAdd_zero (c : Word) : satAdd c 0 = c := by
  apply BitVec.eq_of_toNat_eq
  rw [satAdd_toNat]
  omega

theorem writeScanned_zero_slices (s : State) :
    writeScanned 0 (scanStart s) = { s with resPatched := 0, resSyncErr := 0 } := by
  simp only [writeScanned, scanStart, satAdd_zero]
  rfl

/-- A datagram shorter than one packet is all prefix, and none of it is scanned (R83). -/
theorem processState_short {s : State} (h : s.length.toNat < 188) :
    processState s =
      complete { s with
        resCount := 0, resOffset := s.length, resEncap := prefixClass s.length.toNat
        resPatched := 0, resSyncErr := 0, cntDgram := satAdd s.cntDgram 1 } := by
  have hcount : s.length.toNat / 188 = 0 := Nat.div_eq_of_lt h
  have hprefix : s.length.toNat % 188 = s.length.toNat := Nat.mod_eq_of_lt h
  rw [processState, writeResolved_eq, hcount, hprefix, slicesResult, writeScanned_zero_slices, BitVec.ofNat_toNat,
    BitVec.setWidth_eq]
  rfl

/-- Settles O21: such a datagram is inside the window, so PROCESS leaves `processState`, after a scan of no slices. -/
theorem shortDatagramIsNoError : Obligations.ShortDatagramIsNoError := by
  intro s hlock hshort
  have hfits : ¬ windowTooLarge s .process := by
    rw [windowTooLarge]
    omega
  refine ⟨processState s, exec_runs (fun _ => hlock) hfits, ?_⟩
  rw [processState_short hshort]
  exact ⟨rfl, rfl, rfl, rfl, rfl, rfl, rfl, rfl, rfl, rfl, fun _ => rfl⟩

/-- Settles O13: a length that fits is split by `writeResolved`, and RANGE is the only error RESOLVE can raise. -/
theorem resolveSplitsTheLength : Obligations.ResolveSplitsTheLength := by
  refine ⟨decode_encode .resolve, fun s => ⟨fun hfits => ?_, fun hlong => exec_range nofun hlong⟩⟩
  rw [exec_resolve_fits hfits, writeResolved_eq]
  rfl

end Sys2Proof.Machine
end

section
/-! SUPPORT. The bytes and counts of a scan, slice by slice, in the terms of the statements (R87 to R97). -/

namespace Sys2Proof.Machine

open Sys2Proof.Spec

/-- Settles O50: it is the value of `satAdd` as a number. -/
theorem counterAdditionSaturates : Obligations.CounterAdditionSaturates := satAdd_toNat

/-- Settles O15: MEMBER has no check, its operand is VAL modulo 2^13, and membership is the search of the table below N. -/
theorem memberTestsThePatchSet : Obligations.MemberTestsThePatchSet := by
  refine ⟨decode_encode .member, fun s => ?_⟩
  rw [← valueOp_toNat, ← member_eq_isMember]
  exact exec_runs nofun id

/-- The byte that a scanned slice at a holds at its position j afterwards (R89, R92). -/
def patchedByte (s : State) (a j : Nat) : Byte :=
  if patchedAt s a then
    if j = 1 then (s.byteAt (a + 1) &&& 0xE0) ||| 0x1F else if j = 2 then 0xFF else s.byteAt (a + j)
  else s.byteAt (a + j)

/-- Bits [4:0] of byte 1 become 1, its other bits stay (R77 with NULL_PID). -/
theorem nullHigh_toNat (b : Byte) : ((b &&& 0xE0) ||| 0x1F).toNat = b.toNat / 32 * 32 + 31 :=
  pidHighByte_toNat b 8191

theorem nullHigh_nullHigh (b : Byte) : ((((b &&& 0xE0) ||| 0x1F) &&& 0xE0) ||| 0x1F : Byte) = (b &&& 0xE0) ||| 0x1F := by
  apply BitVec.eq_of_toNat_eq
  rw [nullHigh_toNat, nullHigh_toNat]
  omega

theorem syncedAt_congr {s t : State} {a : Nat} (h : t.byteAt a = s.byteAt a) : syncedAt t a = syncedAt s a := by
  rw [syncedAt, syncedAt, h]

/-- Whether a slice is patched depends on the members and the slice's own bytes only (R93). -/
theorem patchedAt_congr {s t : State} {a : Nat} (hm : isMember t = isMember s)
    (hb : ∀ j, j < 188 → t.byteAt (a + j) = s.byteAt (a + j)) : patchedAt t a = patchedAt s a := by
  have hpid : pidAt t a = pidAt s a := by
    rw [pidAt, pidAt, hb 1 (by decide), hb 2 (by decide)]
  have hsync : syncedAt t a = syncedAt s a := syncedAt_congr (hb 0 (by decide))
  rw [patchedAt, patchedAt, hsync, hpid, hm]

theorem patchedByte_congr {s t : State} {a j : Nat} (hj : j < 188) (hm : isMember t = isMember s)
    (hb : ∀ j, j < 188 → t.byteAt (a + j) = s.byteAt (a + j)) : patchedByte t a j = patchedByte s a j := by
  rw [patchedByte, patchedByte, patchedAt_congr hm hb, hb 1 (by decide), hb j hj]

/-! One slice. -/

/-- One slice of R89's loop, told from the state before it. -/
theorem sliceResult_eq (a : Nat) (r : Scanned) :
    sliceResult a r =
      { state := if patchedAt r.state a then withPid a 8191 r.state else r.state
        patched := r.patched + (patchedAt r.state a).toNat
        syncErr := r.syncErr + (!syncedAt r.state a).toNat } := by
  have hmember : r.state.member (pidField (r.state.byteAt (a + 1)) (r.state.byteAt (a + 2))) =
      isMember r.state (pidAt r.state a) := by
    rw [member_eq_isMember, pidField_toNat, pidAt]
  rw [sliceResult, hmember, patchedAt]
  by_cases hbyte : r.state.byteAt a = 0x47
  · have hsync : syncedAt r.state a = true := decide_eq_true hbyte
    rw [if_pos hbyte, hsync]
    cases isMember r.state (pidAt r.state a) <;> rfl
  · have hsync : syncedAt r.state a = false := decide_eq_false hbyte
    rw [if_neg hbyte, hsync]
    rfl

theorem sliceResult_byteAt (a j : Nat) (r : Scanned) :
    (sliceResult a r).state.byteAt (a + j) = patchedByte r.state a j := by
  rw [sliceResult_eq, patchedByte]
  dsimp only
  by_cases hp : patchedAt r.state a = true
  · rw [if_pos hp, if_pos hp]
    by_cases h1 : j = 1
    · subst h1; exact withPid_high a 8191 r.state
    by_cases h2 : j = 2
    · subst h2; exact withPid_low a 8191 r.state
    · rw [if_neg h1, if_neg h2]
      exact withPid_other (by omega) (by omega) 8191 r.state
  · rw [if_neg hp, if_neg hp]

theorem isMember_sliceResult (a : Nat) (r : Scanned) : isMember (sliceResult a r).state = isMember r.state := by
  rw [sliceResult_frame]; rfl

/-- A slice leaves the bytes of every later slice (R93). -/
theorem sliceResult_later {a b : Nat} (h : a + 188 ≤ b) (r : Scanned) :
    ∀ j, j < 188 → (sliceResult a r).state.byteAt (b + j) = r.state.byteAt (b + j) :=
  fun _ _ => sliceResult_other (by omega) (by omega) r

/-! All slices. -/

theorem isMember_slicesResult (a n : Nat) (r : Scanned) : isMember (slicesResult a n r).state = isMember r.state := by
  rw [slicesResult_frame]; rfl

theorem slicesResult_byteAt {n k j : Nat} (hk : k < n) (hj : j < 188) (a : Nat) (r : Scanned) :
    (slicesResult a n r).state.byteAt (a + 188 * k + j) = patchedByte r.state (a + 188 * k) j := by
  induction n generalizing a k r with
  | zero => exact absurd hk (Nat.not_lt_zero k)
  | succ n ih =>
    rw [slicesResult]
    cases k with
    | zero => rw [slicesResult_outside (.inl (by omega))]; exact sliceResult_byteAt a j r
    | succ k =>
      rw [show a + 188 * (k + 1) = a + 188 + 188 * k by omega, ih (by omega)]
      exact patchedByte_congr hj (isMember_sliceResult a r) (sliceResult_later (by omega) r)

theorem countSlices_succ (f : Nat → Bool) (a n : Nat) :
    countSlices f a (n + 1) = (f a).toNat + countSlices f (a + 188) n := by
  have hshift : (fun k => f (a + 188 * k)) ∘ Nat.succ = fun k => f (a + 188 + 188 * k) := by
    funext k
    exact congrArg f (by omega)
  rw [countSlices, List.range_succ_eq_map, List.countP_cons, List.countP_map, hshift, Nat.add_comm]
  cases f a <;> rfl

theorem countSlices_congr {f g : Nat → Bool} {a n : Nat} (h : ∀ k, k < n → f (a + 188 * k) = g (a + 188 * k)) :
    countSlices f a n = countSlices g a n :=
  List.countP_congr fun k hk => by rw [h k (List.mem_range.1 hk)]

/-- Each slice is counted once, by what it held before the scan (R91). -/
theorem slicesResult_patched (a n : Nat) (r : Scanned) :
    (slicesResult a n r).patched = r.patched + countSlices (patchedAt r.state) a n := by
  induction n generalizing a r with
  | zero => rfl
  | succ n ih =>
    have hlater : countSlices (patchedAt (sliceResult a r).state) (a + 188) n =
        countSlices (patchedAt r.state) (a + 188) n :=
      countSlices_congr fun k _ => patchedAt_congr (isMember_sliceResult a r) (sliceResult_later (by omega) r)
    rw [slicesResult, ih, hlater, countSlices_succ, sliceResult_eq, Nat.add_assoc]

theorem slicesResult_syncErr (a n : Nat) (r : Scanned) :
    (slicesResult a n r).syncErr = r.syncErr + countSlices (fun b => !syncedAt r.state b) a n := by
  induction n generalizing a r with
  | zero => rfl
  | succ n ih =>
    have hlater : countSlices (fun b => !syncedAt (sliceResult a r).state b) (a + 188) n =
        countSlices (fun b => !syncedAt r.state b) (a + 188) n :=
      countSlices_congr fun k _ => congrArg _ (syncedAt_congr (sliceResult_other (by omega) (by omega) r))
    rw [slicesResult, ih, hlater, countSlices_succ, sliceResult_eq, Nat.add_assoc]

/-! The statements' own form of a scanned byte. -/

theorem scannedByte_outside {start n c : Nat} (h : c < start ∨ start + 188 * n ≤ c) (s : State) :
    scannedByte s start n c = s.byteAt c := by
  have hno (d : Nat) (hd : d < 188) :
      (List.range n).any (fun k => patchedAt s (start + 188 * k) && decide (c = start + 188 * k + d)) = false := by
    rw [List.any_eq_false]
    intro k hk
    have hk' := List.mem_range.1 hk
    simp only [Bool.and_eq_true, decide_eq_true_eq, not_and]
    intro _
    omega
  simp [scannedByte, hno]

theorem scannedByte_slice {start n k j : Nat} (hk : k < n) (hj : j < 188) (s : State) :
    scannedByte s start n (start + 188 * k + j) = patchedByte s (start + 188 * k) j := by
  have hown (d : Nat) (hd : d < 188) :
      (List.range n).any (fun i => patchedAt s (start + 188 * i) &&
        decide (start + 188 * k + j = start + 188 * i + d)) = (patchedAt s (start + 188 * k) && decide (j = d)) := by
    rw [Bool.eq_iff_iff, List.any_eq_true]
    simp only [Bool.and_eq_true, decide_eq_true_eq, List.mem_range]
    constructor
    · rintro ⟨i, -, hp, hij⟩
      obtain rfl : i = k := by omega
      exact ⟨hp, by omega⟩
    · rintro ⟨hp, rfl⟩
      exact ⟨k, hk, hp, rfl⟩
  rw [scannedByte, hown 1 (by decide), hown 2 (by decide), patchedByte]
  by_cases hp : patchedAt s (start + 188 * k) = true
  · by_cases h1 : j = 1
    · subst h1; simp [hp]
    · simp [hp, h1]
  · simp [hp]

/-- An address is outside the slices or has a place in one of them. -/
theorem outside_or_slice (start n c : Nat) :
    (c < start ∨ start + 188 * n ≤ c) ∨ ∃ k j, k < n ∧ j < 188 ∧ c = start + 188 * k + j := by
  by_cases h : c < start ∨ start + 188 * n ≤ c
  · exact .inl h
  · exact .inr ⟨(c - start) / 188, (c - start) % 188, by omega, by omega, by omega⟩

theorem slicesResult_scannedByte (start n c : Nat) (r : Scanned) :
    (slicesResult start n r).state.byteAt c = scannedByte r.state start n c := by
  rcases outside_or_slice start n c with h | ⟨k, j, hk, hj, rfl⟩
  · rw [slicesResult_outside h, scannedByte_outside h]
  · rw [slicesResult_byteAt hk hj, scannedByte_slice hk hj]

/-- What a scan writes to its registers, in the terms of the statements (R88, R96). -/
theorem writeScanned_slicesResult (start n : Nat) (s : State) :
    writeScanned n (slicesResult start n (scanStart s)) =
      scanRegisters s start n (slicesResult start n (scanStart s)).state.buf := by
  rw [writeScanned, slicesResult_patched, slicesResult_syncErr, slicesResult_frame]
  simp only [scanStart, Nat.zero_add]
  rfl

theorem scanPatchState_eq (s : State) :
    scanPatchState s =
      completed (scanRegisters s s.argOffset.toNat s.argCount.toNat (scanPatchState s).buf) :=
  congrArg complete (writeScanned_slicesResult _ _ s)

theorem scanPatchState_byteAt (s : State) (c : Nat) :
    (scanPatchState s).byteAt c = scannedByte s s.argOffset.toNat s.argCount.toNat c :=
  slicesResult_scannedByte _ _ c (scanStart s)

theorem processState_eq (s : State) :
    processState s =
      completed { scanRegisters s (s.length.toNat % 188) (s.length.toNat / 188) (processState s).buf with
        resCount := BitVec.ofNat 16 (s.length.toNat / 188)
        resOffset := BitVec.ofNat 16 (s.length.toNat % 188)
        resEncap := prefixClass (s.length.toNat % 188)
        cntDgram := saturating s.cntDgram 1 } := by
  have hbuf : (processState s).buf =
      (slicesResult (s.length.toNat % 188) (s.length.toNat / 188) (scanStart s)).state.buf := rfl
  rw [hbuf, processState, writeScanned_slicesResult, writeResolved_eq]
  rfl

theorem processState_byteAt (s : State) (c : Nat) :
    (processState s).byteAt c = scannedByte s (s.length.toNat % 188) (s.length.toNat / 188) c :=
  slicesResult_scannedByte _ _ c (scanStart s)

theorem exec_scanPatch_runs {s : State} (hl : s.lock = true) (hw : s.argOffset.toNat + 188 * s.argCount.toNat ≤ 1400) :
    exec .scanPatch s = .next (scanPatchState s) :=
  exec_runs (fun _ => hl) (Nat.not_lt.2 hw)

theorem exec_process_runs {s : State} (hl : s.lock = true) (hw : s.length.toNat ≤ 1400) :
    exec .process s = .next (processState s) :=
  exec_runs (fun _ => hl) (Nat.not_lt.2 hw)

/-- Settles O16: the lock and the window are the two checks, and what runs is the scan, byte by byte and count by count. -/
theorem scanPatchPatchesTheMemberSlices : Obligations.ScanPatchPatchesTheMemberSlices := by
  refine ⟨decode_encode .scanPatch, fun s => ⟨fun hl hw => ?_, exec_unlocked rfl, fun hl hw => ?_⟩⟩
  · exact ⟨_, exec_scanPatch_runs hl hw, scanPatchState_eq s, scanPatchState_byteAt s⟩
  · exact exec_range (fun _ => hl) hw

/-- Settles O17: the lock and the length are the two checks, and what runs is the resolver and then the scan. -/
theorem processResolvesThenScans : Obligations.ProcessResolvesThenScans := by
  refine ⟨decode_encode .process, fun s => ⟨fun hl hw => ?_, exec_unlocked rfl, fun hl hw => ?_⟩⟩
  · exact ⟨_, exec_process_runs hl hw, processState_eq s, processState_byteAt s⟩
  · exact exec_range (fun _ => hl) hw

end Sys2Proof.Machine
end

section
/-! SUPPORT. What R98 says of the slices a scan leaves, and of a second scan of them. -/

namespace Sys2Proof.Machine

open Sys2Proof.Spec

/-- State t has the members of s and the bytes that a scan of n slices from `start` leaves in s. -/
def LeftByScan (s : State) (start n : Nat) (t : State) : Prop :=
  isMember t = isMember s ∧ ∀ c, t.byteAt c = scannedByte s start n c

theorem leftByScan_scanPatchState (s : State) :
    LeftByScan s s.argOffset.toNat s.argCount.toNat (scanPatchState s) :=
  ⟨isMember_slicesResult _ _ (scanStart s), scanPatchState_byteAt s⟩

theorem leftByScan_processState (s : State) :
    LeftByScan s (s.length.toNat % 188) (s.length.toNat / 188) (processState s) :=
  ⟨isMember_slicesResult _ _ (scanStart s), processState_byteAt s⟩

namespace LeftByScan

variable {s t : State} {start n k j : Nat}

/-- Bytes outside the slices keep their values (R92). -/
theorem byteAt_outside (h : LeftByScan s start n t) {c : Nat} (hc : c < start ∨ start + 188 * n ≤ c) :
    t.byteAt c = s.byteAt c :=
  (h.2 c).trans (scannedByte_outside hc s)

theorem byteAt_slice (h : LeftByScan s start n t) (hk : k < n) (hj : j < 188) :
    t.byteAt (start + 188 * k + j) = patchedByte s (start + 188 * k) j :=
  (h.2 _).trans (scannedByte_slice hk hj s)

/-- In every slice the bytes but 1 and 2 keep their values. -/
theorem keeps_other (h : LeftByScan s start n t) (hk : k < n) (hj : j < 188) (h1 : j ≠ 1) (h2 : j ≠ 2) :
    t.byteAt (start + 188 * k + j) = s.byteAt (start + 188 * k + j) := by
  rw [h.byteAt_slice hk hj, patchedByte, if_neg h1, if_neg h2, ite_self]

/-- A slice that is not patched keeps all its bytes. -/
theorem keeps_unpatched (h : LeftByScan s start n t) (hk : k < n) (hp : patchedAt s (start + 188 * k) = false)
    (j : Nat) (hj : j < 188) : t.byteAt (start + 188 * k + j) = s.byteAt (start + 188 * k + j) := by
  rw [h.byteAt_slice hk hj, patchedByte, hp]
  rfl

theorem high_of_patched (h : LeftByScan s start n t) (hk : k < n) (hp : patchedAt s (start + 188 * k) = true) :
    t.byteAt (start + 188 * k + 1) = (s.byteAt (start + 188 * k + 1) &&& 0xE0) ||| 0x1F := by
  rw [h.byteAt_slice hk (by decide), patchedByte, if_pos hp, if_pos rfl]

theorem low_of_patched (h : LeftByScan s start n t) (hk : k < n) (hp : patchedAt s (start + 188 * k) = true) :
    t.byteAt (start + 188 * k + 2) = 0xFF := by
  rw [h.byteAt_slice hk (by decide), patchedByte, if_pos hp, if_neg (by decide), if_pos rfl]

theorem pidAt_of_patched (h : LeftByScan s start n t) (hk : k < n) (hp : patchedAt s (start + 188 * k) = true) :
    pidAt t (start + 188 * k) = 8191 := by
  rw [pidAt, h.high_of_patched hk hp, h.low_of_patched hk hp, nullHigh_toNat]
  have hlow : (0xFF : Byte).toNat = 255 := rfl
  omega

theorem syncedAt_eq (h : LeftByScan s start n t) (hk : k < n) :
    syncedAt t (start + 188 * k) = syncedAt s (start + 188 * k) :=
  syncedAt_congr (h.keeps_other (j := 0) hk (by decide) (by decide) (by decide))

/-- The second scan finds the same sync errors (R98). -/
theorem syncErr_again (h : LeftByScan s start n t) :
    countSlices (fun a => !syncedAt t a) start n = countSlices (fun a => !syncedAt s a) start n :=
  countSlices_congr fun _ hk => congrArg _ (h.syncedAt_eq hk)

/-- After a scan a slice is one to patch exactly when it was and 8191 is a member. -/
theorem patchedAt_eq (h : LeftByScan s start n t) (hk : k < n) :
    patchedAt t (start + 188 * k) = (patchedAt s (start + 188 * k) && isMember s 8191) := by
  cases hp : patchedAt s (start + 188 * k) with
  | false => rw [patchedAt_congr h.1 (h.keeps_unpatched hk hp), hp, Bool.false_and]
  | true =>
    have hsync : syncedAt s (start + 188 * k) = true := (Bool.and_eq_true_iff.1 hp).1
    rw [patchedAt, h.syncedAt_eq hk, h.pidAt_of_patched hk hp, h.1, hsync]

/-- Scanning the slices again changes no byte (R98). -/
theorem scan_again (h : LeftByScan s start n t) (c : Nat) : scannedByte t start n c = t.byteAt c := by
  rcases outside_or_slice start n c with hc | ⟨k, j, hk, hj, rfl⟩
  · exact scannedByte_outside hc t
  rw [scannedByte_slice hk hj, patchedByte]
  split
  · next hagain =>
    rw [h.patchedAt_eq hk] at hagain
    have hp := (Bool.and_eq_true_iff.1 hagain).1
    split
    · next h1 => rw [h1, h.high_of_patched hk hp, nullHigh_nullHigh]
    · split
      · next h2 => rw [h2, h.low_of_patched hk hp]
      · rfl
  · rfl

/-- The second scan patches the slices whose PID is 8191, if that is a member, and none otherwise (R98, C3). -/
theorem patched_again (h : LeftByScan s start n t) :
    countSlices (patchedAt t) start n =
      if isMember s 8191 then countSlices (fun a => syncedAt t a && decide (pidAt t a = 8191)) start n else 0 := by
  split
  · next hnull =>
    refine countSlices_congr fun k hk => ?_
    rw [Bool.eq_iff_iff, Bool.and_eq_true_iff, decide_eq_true_iff]
    constructor
    · intro hagain
      have hsync := (Bool.and_eq_true_iff.1 hagain).1
      rw [h.patchedAt_eq hk] at hagain
      exact ⟨hsync, h.pidAt_of_patched hk (Bool.and_eq_true_iff.1 hagain).1⟩
    · rintro ⟨hsync, hpid⟩
      rw [patchedAt, hsync, hpid, h.1, hnull]
      rfl
  · next hnull =>
    refine List.countP_eq_zero.2 fun k hk => ?_
    rw [h.patchedAt_eq (List.mem_range.1 hk)]
    simp [hnull]

end LeftByScan

theorem scanPatchState_resPatched (s : State) :
    (scanPatchState s).resPatched =
      BitVec.ofNat 16 (countSlices (patchedAt s) s.argOffset.toNat s.argCount.toNat) := by
  rw [scanPatchState_eq]; rfl

theorem scanPatchState_resSyncErr (s : State) :
    (scanPatchState s).resSyncErr =
      BitVec.ofNat 16 (countSlices (fun a => !syncedAt s a) s.argOffset.toNat s.argCount.toNat) := by
  rw [scanPatchState_eq]; rfl

/-- SCAN_PATCH keeps the lock and the operands that its checks read (R72). -/
theorem scanPatchState_keeps (s : State) :
    (scanPatchState s).lock = s.lock ∧ (scanPatchState s).argOffset = s.argOffset ∧
      (scanPatchState s).argCount = s.argCount := by
  rw [scanPatchState_frame]
  exact ⟨rfl, rfl, rfl⟩

/-- Settles O18: the first SCAN_PATCH keeps the lock and the operands, and leaves slices that a second scan does not
change. -/
theorem secondScanChangesNoByte : Obligations.SecondScanChangesNoByte := by
  intro s hl hw
  obtain ⟨hlock, hoffset, hcount⟩ := scanPatchState_keeps s
  have hleft := leftByScan_scanPatchState s
  have hsecond : exec .scanPatch (scanPatchState s) = .next (scanPatchState (scanPatchState s)) :=
    exec_scanPatch_runs (hlock.trans hl) (by rwa [hoffset, hcount])
  refine ⟨_, _, exec_scanPatch_runs hl hw, hsecond, fun c => ?_, ?_, ?_⟩
  · rw [scanPatchState_byteAt, hoffset, hcount, hleft.scan_again]
  · rw [scanPatchState_resSyncErr, hoffset, hcount, hleft.syncErr_again, scanPatchState_resSyncErr s]
  · rw [scanPatchState_resPatched, hoffset, hcount, hleft.patched_again]

/-- Settles O19, by the bytes of a slice that is patched, of one that is not, and outside the slices. -/
theorem processedSlicesKeepAllButThePid : Obligations.ProcessedSlicesKeepAllButThePid := by
  intro s hl hw
  have hleft := leftByScan_processState s
  refine ⟨_, exec_process_runs hl hw, fun a ha => hleft.byteAt_outside (.inl ha),
    fun a ha => hleft.byteAt_outside (.inr (by omega)), fun k hk => ⟨fun hp => ?_, hleft.keeps_unpatched hk⟩⟩
  refine ⟨hleft.pidAt_of_patched hk hp, ?_, fun j hj => hleft.keeps_other hk hj⟩
  rw [hleft.high_of_patched hk hp, nullHigh_toNat]
  omega

end Sys2Proof.Machine
end

section
/-! SUPPORT. Register reads through a register's name (R18, R99) and the words they return. -/

namespace Sys2Proof.Machine

open Sys2Proof.Spec

theorem exists_offset_of_mapped {off : BitVec 12} (h : mapped off) : ∃ r : Reg, r.offset = off := by
  obtain ⟨r, hr⟩ := Option.isSome_iff_exists.1 ((regAt_isSome_iff off).2 h)
  exact ⟨r, offset_of_regAt hr⟩

/-- RES_* and CNT_* are the registers from 0x028 to 0x04C (R18, R99). -/
theorem volatile_iff_offset (r : Reg) : r.volatile = true ↔ 0x028 ≤ r.offset.toNat ∧ r.offset.toNat ≤ 0x04C := by
  cases r
  case patchTable i =>
    rw [patchTable_offset_toNat]
    exact iff_of_false nofun (by omega)
  all_goals decide

theorem regRd_none {off : BitVec 12} {width : Nat} (h : ¬ (width = 4 ∧ mapped off)) (s : State) :
    regRd off width s = (0, setErr .bus s) := by
  rw [regRd, regAccess_eq_none h]

theorem regRd_volatile_busy {r : Reg} {s : State} (hv : r.volatile = true) (hb : s.busy = true) :
    regRd r.offset 4 s = (Config.drawWord s.draws, { s with draws := s.draws + 1 }) := by
  simp [regRd, regAccess, regAt_offset, hv, hb]

/-- A read is exact at BUSY = 0. -/
theorem regRd_idle {s : State} (hb : s.busy = false) (r : Reg) : regRd r.offset 4 s = (s.readReg r, s) := by
  simp [regRd, regAccess, regAt_offset, hb]

/-- Outside RES_* and CNT_* a read is exact, busy or not. -/
theorem regRd_exact {r : Reg} (hv : r.volatile = false) (s : State) : regRd r.offset 4 s = (s.readReg r, s) := by
  simp [regRd, regAccess, regAt_offset, hv]

theorem ctrlWord_eq (s : State) : s.ctrlWord = if s.lock then 1 else 0 := by
  unfold State.ctrlWord
  cases s.lock <;> rfl

theorem statusWord_eq (s : State) :
    s.statusWord =
      BitVec.ofNat 32 ((if s.busy then 1 else 0) + (if s.done then 2 else 0) + (if s.err = 0 then 0 else 4)) := by
  have herr : s.errSum = !decide (s.err = 0) := rfl
  unfold State.statusWord
  rw [herr]
  cases s.busy <;> cases s.done <;> by_cases h : s.err = 0 <;> simp only [h] <;> rfl

/-- N at most 100 fits PATCH_COUNT's 8 bits. -/
theorem readReg_patchCount {s : State} (h : s.patchCount ≤ 100) :
    s.readReg .patchCount = BitVec.ofNat 32 s.patchCount :=
  BitVec.setWidth_ofNat_of_le_of_lt (by decide) (by omega)

/-- Settles O27: each offset is that of a register, which reads exactly unless it is one of RES_* and CNT_* and BUSY = 1. -/
theorem registerReadsFollowTheMap : Obligations.RegisterReadsFollowTheMap := by
  intro s
  have exact {r : Reg} (hv : r.volatile = false) := regRd_exact hv s
  refine ⟨fun off width h => regRd_none h s, fun hb off haligned hlo hhi => ?_, fun hb => ?_,
    exact (r := .id) rfl, exact (r := .params) rfl, ?_, ?_, ?_, exact (r := .cmd) rfl, exact (r := .length) rfl,
    exact (r := .argOffset) rfl, exact (r := .argCount) rfl, exact (r := .argValue) rfl, fun hn => ?_,
    exact (r := .patchPush) rfl, fun i => exact (r := .patchTable i) rfl⟩
  · obtain ⟨r, rfl⟩ := exists_offset_of_mapped (off := off) ⟨haligned, .inl (by omega)⟩
    exact regRd_volatile_busy ((volatile_iff_offset r).2 ⟨hlo, hhi⟩) hb
  · have idle := regRd_idle hb
    exact ⟨idle .resCount, idle .resOffset, idle .resEncap, idle .resPatched, idle .resSyncErr, idle .resValue,
      idle .cntDgram, idle .cntPkt, idle .cntPatch, idle .cntSyncErr⟩
  · rw [← ctrlWord_eq]
    exact exact (r := .ctrl) rfl
  · rw [← statusWord_eq]
    exact exact (r := .status) rfl
  · rw [BitVec.ofNat_toNat]
    exact exact (r := .err) rfl
  · rw [← readReg_patchCount hn]
    exact exact (r := .patchCount) rfl

end Sys2Proof.Machine
end

section
/-! SUPPORT. Register writes other than of CMD and the operands: the read-only registers, CTRL, ERR and PATCH_PUSH (R100 to
R103). -/

namespace Sys2Proof.Machine

open Sys2Proof.Spec

/-- R18's read-only registers, by their offsets. -/
theorem writeReg_readOnly {r : Reg} (h : r.offset.toNat ≤ 0x004 ∨ r.offset.toNat = 0x00C ∨
    0x028 ≤ r.offset.toNat ∧ r.offset.toNat ≤ 0x050 ∨ 0x100 ≤ r.offset.toNat) (w : Word) (s : State) :
    writeReg r w s = s := by
  cases r
  case ctrl | err | cmd | length | argOffset | argCount | argValue | patchPush => exact absurd h (by decide)
  all_goals rfl

/-- Settles O30, by the register the offset names. -/
theorem readOnlyRegistersIgnoreWrites : Obligations.ReadOnlyRegistersIgnoreWrites := by
  intro off w s hmapped hreadOnly
  obtain ⟨r, rfl⟩ := exists_offset_of_mapped hmapped
  rw [regWr_offset, writeReg_readOnly hreadOnly]

theorem writeCtrl_eq (w : Word) (s : State) :
    writeCtrl w s = { s with lock := s.lock || decide (w.toNat % 2 = 1) } := by
  rw [writeCtrl, BitVec.getLsbD, Nat.testBit_zero]

/-- Settles O31: offset 0x008 is CTRL's, and a write of CTRL is one that BUSY = 1 forbids. -/
theorem ctrlWriteOnlySetsLock : Obligations.CtrlWriteOnlySetsLock := by
  intro w s
  have hwrite : regWr 0x008 4 w s = unlessBusy (writeCtrl w) s := regWr_offset .ctrl w s
  rw [hwrite]
  exact ⟨fun hidle => (unlessBusy_idle hidle _).trans (writeCtrl_eq w s), fun hbusy => unlessBusy_busy hbusy _⟩

theorem getLsbD_clearedErr (w : Word) (err : BitVec 6) {j : Nat} (hj : j < 6) :
    (clearedErr w err).getLsbD j = (err.getLsbD j && !w.getLsbD j) := by
  simp [clearedErr, hj]

/-- Settles O32: the write leaves `clearedErr` in ERR, busy or not. -/
theorem errWriteClearsTheBitsWrittenOne : Obligations.ErrWriteClearsTheBitsWrittenOne := fun w s =>
  ⟨clearedErr w s.err, regWr_offset .err w s, fun _ => getLsbD_clearedErr w s.err⟩

theorem pushPid_rejects {w : Word} {s : State} (h : s.lock = true ∨ s.patchCount ≥ 100 ∨ w.toNat > 8191) :
    pushPid w s = setErr .cfg s :=
  if_pos h

theorem pushPid_appends {w : Word} {s : State} (hl : s.lock = false) (hn : s.patchCount < 100) (hw : w.toNat ≤ 8191) :
    pushPid w s = appendPid w s :=
  if_neg (by simp only [hl, Bool.false_eq_true, false_or, Config.patchMax]; omega)

/-- Below the table's end the append puts the PID at N and keeps the other entries. -/
theorem appendPid_getElem {w : Word} (hw : w.toNat ≤ 8191) (s : State) (j : Fin 100) :
    ((appendPid w s).pt[j.val]).toNat = if j.val = s.patchCount then w.toNat else (s.pt[j.val]).toNat := by
  have hword : (w.setWidth 13).toNat = w.toNat := by rw [BitVec.toNat_setWidth, Nat.mod_eq_of_lt (by omega)]
  simp only [appendPid, Vector.getElem_setIfInBounds, eq_comm (a := s.patchCount)]
  split
  · exact hword
  · rfl

/-- Settles O33, by the append of R103 and the three reasons to reject. -/
theorem patchPushAppendsOrRejects : Obligations.PatchPushAppendsOrRejects := by
  intro w s _
  have hwrite : regWr 0x054 4 w s = unlessBusy (pushPid w) s := regWr_offset .patchPush w s
  rw [hwrite]
  refine ⟨fun hbusy => unlessBusy_busy hbusy _, fun hidle hreject => ?_, fun hidle hl hn hw => ?_⟩
  · rw [unlessBusy_idle hidle]
    exact pushPid_rejects (hreject.imp_right (.imp_left fun hfull => hfull.ge))
  · rw [unlessBusy_idle hidle]
    exact ⟨_, pushPid_appends hl hn hw, appendPid_getElem hw s⟩

end Sys2Proof.Machine
end

section
/-! SUPPORT. Buffer reads and writes, one equation per case (R104, R105). -/

namespace Sys2Proof.Machine

theorem bufAccess_eq_true {a : Nat} (h : a < 1400) : bufAccess a 1 = true :=
  decide_eq_true ⟨rfl, h⟩

theorem bufRd_outside {a width : Nat} (h : ¬ (width = 1 ∧ a < 1400)) (s : State) :
    bufRd a width s = (0, setErr .bus s) := by
  simp [bufRd, bufAccess_eq_false h]

theorem bufRd_busy {a : Nat} {s : State} (ha : a < 1400) (hb : s.busy = true) :
    bufRd a 1 s = (Config.drawByte s.draws, { s with draws := s.draws + 1 }) := by
  simp [bufRd, bufAccess_eq_true ha, hb]

theorem bufRd_idle {a : Nat} {s : State} (ha : a < 1400) (hb : s.busy = false) : bufRd a 1 s = (s.byteAt a, s) := by
  simp [bufRd, bufAccess_eq_true ha, hb]

/-- Settles O34, by the access and BUSY. -/
theorem bufferReadsReturnTheByte : Obligations.BufferReadsReturnTheByte := by
  intro a width s
  refine ⟨fun h => bufRd_outside h s, ?_, ?_⟩ <;> rintro rfl ha hb
  · exact bufRd_busy ha hb
  · exact bufRd_idle ha hb

theorem bufWr_outside {a width : Nat} (h : ¬ (width = 1 ∧ a < 1400)) (b : Byte) (s : State) :
    bufWr a width b s = setErr .bus s := by
  simp [bufWr, bufAccess_eq_false h]

theorem bufWr_busy {a : Nat} {s : State} (ha : a < 1400) (hb : s.busy = true) (b : Byte) :
    bufWr a 1 b s = setErr .hazard s := by
  rw [bufWr, if_pos (bufAccess_eq_true ha), unlessBusy_busy hb]

theorem bufWr_idle {a : Nat} {s : State} (ha : a < 1400) (hb : s.busy = false) (b : Byte) :
    bufWr a 1 b s = s.setByte a b := by
  rw [bufWr, if_pos (bufAccess_eq_true ha), unlessBusy_idle hb]

/-- Settles O35, by the access and BUSY. -/
theorem bufferWritesStoreTheByte : Obligations.BufferWritesStoreTheByte := by
  intro a width b s
  refine ⟨fun h => bufWr_outside h b s, ?_, ?_⟩ <;> rintro rfl ha hb
  · exact bufWr_busy ha hb b
  · rw [bufWr_idle ha hb]
    exact ⟨rfl, byteAt_setByte_self s a b, fun c hc => byteAt_setByte_other s hc b⟩

end Sys2Proof.Machine
end

section
/-! SUPPORT. The errors of commands (R112, R113, R117, R118): which checks come first, what an error leaves, and the fields
no command reads. -/

namespace Sys2Proof.Machine

open Sys2Proof.Spec

/-- What a command that needs no lock leaves does not depend on LOCK. -/
theorem commandState_withLock {i : Instr} (hi : needsLock i = false) (b : Bool) (s : State) :
    commandState i { s with lock := b } = { commandState i s with lock := b } := by
  cases i
  case scanPatch | process => cases hi
  all_goals rfl

/-- A command that needs no lock has the same outcome whatever LOCK is, LOCK aside (R112). -/
theorem exec_withLock {i : Instr} (hi : needsLock i = false) (b : Bool) (s : State) :
    exec i { s with lock := b } = mapNext (fun t => { t with lock := b }) (exec i s) := by
  have hl {t : State} : needsLock i = true → t.lock = true := by simp [hi]
  by_cases hw : windowTooLarge s i
  · rw [exec_range hl hw, exec_range (s := { s with lock := b }) hl hw]
    rfl
  · rw [exec_runs hl hw, exec_runs (s := { s with lock := b }) hl hw, commandState_withLock hi]
    rfl

/-- Settles O22: the lock is the first check of the two commands that need it, and the decode check comes before any of
them. -/
theorem onlyScanPatchAndProcessCheckTheLock : Obligations.OnlyScanPatchAndProcessCheckTheLock := fun _ s =>
  ⟨exec_unlocked, fun hi b => exec_withLock hi b s, fun _ => engineStep_illegal⟩

/-- A command that runs leaves ERR as it was (R117). -/
theorem commandState_err (i : Instr) (s : State) : (commandState i s).err = s.err := by
  rw [commandState_frame]

/-- Settles O23: once the lock is as needed, the window decides between RANGE and a run. -/
theorem rangeIsRaisedExactlyForLargeWindows : Obligations.RangeIsRaisedExactlyForLargeWindows := fun i s hl =>
  ⟨exec_range hl, fun hw => ⟨_, exec_runs hl hw, commandState_err i s⟩⟩

/-- Settles O24, by the three ends of a command. -/
theorem commandErrorsArePrecise : Obligations.CommandErrorsArePrecise := by
  intro i s
  obtain ⟨t, ht⟩ := exec_total i s
  refine ⟨t, ht, ?_⟩
  rcases exec_cases ht with ⟨-, -, rfl⟩ | ⟨-, rfl⟩ | ⟨-, -, rfl⟩
  · exact .inr (.inl rfl)
  · exact .inr (.inr rfl)
  · exact .inl (commandState_err i s)

/-- A state with ERR and the model's fields of the host's side (log 1, log 2, log 4) taken from another. -/
def State.withUnread (s u : State) : State :=
  { s with
    err := u.err, draws := u.draws, hostProgram := u.hostProgram, schedule := u.schedule, observed := u.observed }

/-- What a scan leaves, with those fields of its state taken from another. -/
def Scanned.withUnread (r : Scanned) (u : State) : Scanned := { r with state := r.state.withUnread u }

section

variable (u : State)

theorem sliceResult_withUnread (a : Nat) (r : Scanned) :
    sliceResult a (r.withUnread u) = (sliceResult a r).withUnread u := by
  simp only [sliceResult, apply_ite (Scanned.withUnread · u)]
  rfl

theorem slicesResult_withUnread (a n : Nat) (r : Scanned) :
    slicesResult a n (r.withUnread u) = (slicesResult a n r).withUnread u := by
  induction n generalizing a r with
  | zero => rfl
  | succ n ih => rw [slicesResult, slicesResult, sliceResult_withUnread, ih]

/-- What a command leaves does not depend on ERR nor on the host's side (R118). -/
theorem commandState_withUnread (i : Instr) (s : State) :
    commandState i (s.withUnread u) = (commandState i s).withUnread u := by
  have hscan (a n : Nat) : slicesResult a n (scanStart (s.withUnread u)) =
      (slicesResult a n (scanStart s)).withUnread u := slicesResult_withUnread u a n (scanStart s)
  cases i
  case scanPatch =>
    rw [commandState, commandState, scanPatchState, scanPatchState, hscan]
    rfl
  case process =>
    rw [commandState, commandState, processState, processState, hscan]
    rfl
  all_goals rfl

end

/-- With the unread fields replaced, a command ends alike and sets the same ERR bits m (R118). -/
theorem exec_withUnread (i : Instr) (s u : State) :
    ∃ t m, exec i s = .next t ∧ t.err = s.err ||| m ∧
      exec i (s.withUnread u) = .next (t.withUnread { u with err := u.err ||| m }) := by
  by_cases hl : needsLock i = true ∧ s.lock = false
  · obtain ⟨hi, hf⟩ := hl
    exact ⟨_, ErrBit.unlocked.mask, exec_unlocked hi hf, rfl, exec_unlocked (s := s.withUnread u) hi hf⟩
  · have hl' : needsLock i = true → s.lock = true := by simpa using hl
    by_cases hw : windowTooLarge s i
    · exact ⟨_, ErrBit.range.mask, exec_range hl' hw, rfl, exec_range (s := s.withUnread u) hl' hw⟩
    · refine ⟨_, 0#6, exec_runs hl' hw, ?_, ?_⟩
      · rw [commandState_err, BitVec.or_zero]
      · rw [exec_runs (s := s.withUnread u) hl' hw, commandState_withUnread, BitVec.or_zero]

/-- Settles O26: the replaced fields are those of `State.withUnread`. -/
theorem commandsNeverReadErr : Obligations.CommandsNeverReadErr := fun i s e d p q o =>
  exec_withUnread i s { s with err := e, draws := d, hostProgram := p, schedule := q, observed := o }

end Sys2Proof.Machine
end

section
/-! SUPPORT. Host writes while a command is in flight (R115, R133). -/

namespace Sys2Proof.Machine

/-- A write of ERR sets no bit (R102). -/
theorem clearedErr_sets_none (w : Word) (err : BitVec 6) : clearedErr w err &&& ~~~err = 0 := by
  rw [clearedErr, BitVec.and_comm, ← BitVec.and_assoc, BitVec.and_comm (~~~err), BitVec.and_not_self]
  exact BitVec.zero_and

/-- Settles O37, by the register each offset names; a buffer write is dropped like a write of a protected register. -/
theorem busyWritesAreDroppedWithHazard : Obligations.BusyWritesAreDroppedWithHazard := by
  intro off w a b s hb
  obtain ⟨hlen, hofs, hcnt, hval⟩ := writeReg_operand_busy hb w
  have herr : regWr 0x010 4 w s = writeErr w s := regWr_offset .err w s
  refine ⟨?_, fun ha => bufWr_busy ha hb b, regWr_busy_frame hb .., ?_, readOnlyRegistersIgnoreWrites off w s⟩
  · rintro (rfl | rfl | rfl | rfl | rfl | rfl | rfl)
    · exact (regWr_offset .cmd w s).trans (unlessBusy_busy hb _)
    · exact (regWr_offset .ctrl w s).trans (unlessBusy_busy hb _)
    · exact (regWr_offset .length w s).trans hlen
    · exact (regWr_offset .argOffset w s).trans hofs
    · exact (regWr_offset .argCount w s).trans hcnt
    · exact (regWr_offset .argValue w s).trans hval
    · exact (regWr_offset .patchPush w s).trans (unlessBusy_busy hb _)
  · rw [herr]
    exact clearedErr_sets_none w s.err

end Sys2Proof.Machine
end

section
/-! SUPPORT. The state after reset and the reset input (R128, R129, R130). -/

namespace Sys2Proof.Machine

/-- Where nothing has been stored, every byte is the draw of the last reset (R130). -/
theorem byteAt_of_buf_nil {s : State} (h : s.buf = []) (a : Nat) : s.byteAt a = Config.resetByte s.resets a := by
  rw [State.byteAt, h]
  rfl

/-- Right after reset every register but ID and PARAMS holds 0 (R129). -/
theorem readReg_reset {r : Reg} (hid : r ≠ .id) (hparams : r ≠ .params) : State.reset.readReg r = 0 := by
  cases r
  case id => exact absurd rfl hid
  case params => exact absurd rfl hparams
  all_goals rfl

/-- Settles O42: the reset input brings the state after reset to itself but for the count of resets, which the invariant
does not read. -/
theorem resetMeetsTheInvariant : Obligations.ResetMeetsTheInvariant := resetBlock_inv State.reset

/-- Settles O48: every mapped offset is a register's, and reset leaves BUSY = 0, so its read is exact. -/
theorem resetValuesAreTheTables : Obligations.ResetValuesAreTheTables := by
  refine ⟨fun off hmapped hlow => ?_, regRd_idle rfl .id, regRd_idle rfl .params, rfl, rfl, rfl,
    byteAt_of_buf_nil rfl⟩
  obtain ⟨r, rfl⟩ := exists_offset_of_mapped hmapped
  have hid : r ≠ .id := by rintro rfl; exact absurd hlow (by decide)
  have hparams : r ≠ .params := by rintro rfl; exact absurd hlow (by decide)
  rw [regRd_idle rfl, readReg_reset hid hparams]

/-- Settles O49: the reset input has the turn, and leaves no stored byte. -/
theorem resetInputWorksInAnyState : Obligations.ResetInputWorksInAnyState := by
  intro s hsched
  have hturn : s.turn = .reset := by
    obtain ⟨rest, hs⟩ := List.head?_eq_some_iff.1 hsched
    rw [State.turn, hs]
  exact ⟨_, step_reset hturn, rfl, byteAt_of_buf_nil rfl⟩

end Sys2Proof.Machine
end

section
/-! SUPPORT. Runs that write first every buffer byte they read do not depend on the draws of a reset (R130, R139): each
operation of a step, with the index of the draws moved, does the same where the bytes it reads are written. -/

namespace Sys2Proof.Machine

open Sys2Proof.Spec

/-- A state whose unwritten bytes are the draws of another reset (log 3). -/
def State.moveResets (d : Nat) (s : State) : State := { s with resets := s.resets + d }

/-- What a scan leaves, with the draws of another reset. -/
def Scanned.moveResets (d : Nat) (r : Scanned) : Scanned := { r with state := r.state.moveResets d }

/-- What the scanner reads of slice k from a, its bytes 0, 1 and 2, is written for each of n slices (R48). -/
def SlicesWritten (a n : Nat) (s : State) : Prop := ∀ k < n, ∀ j < 3, s.written (a + 188 * k + j) = true

theorem slicesWritten_of_sliceReads {a n : Nat} {s : State} (h : ∀ c ∈ sliceReads a n, s.written c = true) :
    SlicesWritten a n s :=
  fun k hk j hj => h _ (mem_sliceReads.2 ⟨k, hk, j, hj, rfl⟩)

/-- A written byte stays written under a scan of one slice. -/
theorem written_sliceResult {r : Scanned} {c : Nat} (h : r.state.written c = true) (a : Nat) :
    (sliceResult a r).state.written c = true := by
  unfold sliceResult
  split
  · split
    · exact written_setByte (written_setByte h _ _) _ _
    · exact h
  · exact h

/-- Scanning the first slice leaves the bytes read of the later ones written. -/
theorem SlicesWritten.tail {a n : Nat} {r : Scanned} (h : SlicesWritten a (n + 1) r.state) :
    SlicesWritten (a + 188) n (sliceResult a r).state := fun k hk j hj => by
  rw [show a + 188 + 188 * k + j = a + 188 * (k + 1) + j by omega]
  exact written_sliceResult (h (k + 1) (by omega) j hj) a

section

variable {d : Nat}

theorem byteAt_moveResets {s : State} {a : Nat} (h : s.written a = true) : (s.moveResets d).byteAt a = s.byteAt a :=
  byteAt_of_written h _

/-- write_pid reads byte o + 1 only (R77). -/
theorem withPid_moveResets {o : Nat} {s : State} (h : s.written (o + 1) = true) (p : Nat) :
    withPid o p (s.moveResets d) = (withPid o p s).moveResets d := by
  rw [withPid, byteAt_moveResets h]
  rfl

theorem sliceResult_moveResets {a : Nat} {r : Scanned} (h : ∀ j < 3, r.state.written (a + j) = true) :
    sliceResult a (r.moveResets d) = (sliceResult a r).moveResets d := by
  have hbyte (j : Nat) (hj : j < 3) : (r.moveResets d).state.byteAt (a + j) = r.state.byteAt (a + j) :=
    byteAt_moveResets (h j hj)
  have h0 : (r.moveResets d).state.byteAt a = r.state.byteAt a := hbyte 0 (by omega)
  have hmember (p : Pid) : (r.moveResets d).state.member p = r.state.member p := rfl
  have hpatch : withPid a 8191 (r.moveResets d).state = (withPid a 8191 r.state).moveResets d :=
    withPid_moveResets (h 1 (by omega)) 8191
  simp only [sliceResult, h0, hbyte 1 (by omega), hbyte 2 (by omega), hmember, hpatch]
  split
  · split <;> rfl
  · rfl

theorem slicesResult_moveResets {a n : Nat} {r : Scanned} (h : SlicesWritten a n r.state) :
    slicesResult a n (r.moveResets d) = (slicesResult a n r).moveResets d := by
  induction n generalizing a r with
  | zero => rfl
  | succ n ih =>
    have hfirst : ∀ j < 3, r.state.written (a + j) = true := h 0 (by omega)
    rw [slicesResult, slicesResult, sliceResult_moveResets hfirst, ih h.tail]

theorem scan_moveResets {a n : Nat} {s : State} (h : ∀ c ∈ sliceReads a n, s.written c = true) :
    slicesResult a n (scanStart (s.moveResets d)) = (slicesResult a n (scanStart s)).moveResets d :=
  slicesResult_moveResets (r := scanStart s) (slicesWritten_of_sliceReads h)

/-- A command that runs reads no unwritten byte where those of `commandReads` are written (R48). -/
theorem commandState_moveResets {i : Instr} {s : State} (hl : needsLock i = true → s.lock = true)
    (hw : ¬ windowTooLarge s i) (h : ∀ a ∈ commandReads i s, s.written a = true) :
    commandState i (s.moveResets d) = (commandState i s).moveResets d := by
  cases i <;> simp only [windowTooLarge, gt_iff_lt, not_lt] at hw
  case nop | resolve | member => rfl
  case readPid =>
    have hreads : commandReads .readPid s = [s.offsetOp, s.offsetOp + 1, s.offsetOp + 2] :=
      if_pos ((headerFits_iff _).2 hw)
    have h1 : s.written (s.argOffset.toNat + 1) = true := h _ (by simp [hreads, State.offsetOp])
    have h2 : s.written (s.argOffset.toNat + 2) = true := h _ (by simp [hreads, State.offsetOp])
    rw [commandState, readPidState, show (s.moveResets d).argOffset = s.argOffset from rfl, byteAt_moveResets h1,
      byteAt_moveResets h2]
    rfl
  case isSynced =>
    have hreads : commandReads .isSynced s = [s.offsetOp, s.offsetOp + 1, s.offsetOp + 2] :=
      if_pos ((headerFits_iff _).2 hw)
    have h0 : s.written s.argOffset.toNat = true := h _ (by simp [hreads, State.offsetOp])
    rw [commandState, isSyncedState, show (s.moveResets d).argOffset = s.argOffset from rfl, byteAt_moveResets h0]
    rfl
  case writePid =>
    have hreads : commandReads .writePid s = [s.offsetOp + 1] := if_pos ((headerFits_iff _).2 hw)
    have h1 : s.written (s.argOffset.toNat + 1) = true := h _ (by simp [hreads, State.offsetOp])
    exact congrArg complete (withPid_moveResets h1 _)
  case scanPatch =>
    have hreads : commandReads .scanPatch s = sliceReads s.offsetOp s.countOp :=
      if_pos (by simp [hl rfl, State.offsetOp, State.countOp, hw])
    rw [hreads, State.offsetOp, State.countOp] at h
    rw [commandState, scanPatchState, show (s.moveResets d).argOffset = s.argOffset from rfl,
      show (s.moveResets d).argCount = s.argCount from rfl, scan_moveResets h]
    rfl
  case process =>
    have hreads : commandReads .process s = sliceReads (prefixOffset s.lengthOp) (packetCount s.lengthOp) :=
      if_pos (by simp [hl rfl, State.lengthOp, hw])
    rw [hreads, prefixOffset_eq, packetCount_eq, State.lengthOp] at h
    rw [commandState, processState, show (s.moveResets d).length = s.length from rfl, scan_moveResets h]
    rfl

theorem exec_moveResets {i : Instr} {s : State} (h : ∀ a ∈ commandReads i s, s.written a = true) :
    exec i (s.moveResets d) = mapNext (State.moveResets d) (exec i s) := by
  by_cases hl : needsLock i = true ∧ s.lock = false
  · obtain ⟨hi, hf⟩ := hl
    rw [exec_unlocked hi hf, exec_unlocked (s := s.moveResets d) hi hf]
    rfl
  · have hl' : needsLock i = true → s.lock = true := by simpa using hl
    by_cases hw : windowTooLarge s i
    · rw [exec_range hl' hw, exec_range (s := s.moveResets d) hl' hw]
      rfl
    · rw [exec_runs hl' hw, exec_runs (s := s.moveResets d) hl' hw, commandState_moveResets hl' hw h]
      rfl

theorem regRd_moveResets (off : BitVec 12) (width : Nat) (s : State) :
    regRd off width (s.moveResets d) = ((regRd off width s).1, (regRd off width s).2.moveResets d) := by
  unfold regRd
  split
  · rfl
  · next r _ =>
    rw [show (s.moveResets d).busy = s.busy from rfl]
    split
    · rfl
    · cases r <;> rfl

theorem unlessBusy_moveResets {write : State → State} {s : State}
    (h : write (s.moveResets d) = (write s).moveResets d) :
    unlessBusy write (s.moveResets d) = (unlessBusy write s).moveResets d := by
  simp only [unlessBusy, apply_ite (State.moveResets d), h]
  rfl

theorem pushPid_moveResets (w : Word) (s : State) : pushPid w (s.moveResets d) = (pushPid w s).moveResets d := by
  simp only [pushPid, apply_ite (State.moveResets d)]
  rfl

theorem regWr_moveResets (off : BitVec 12) (width : Nat) (w : Word) (s : State) :
    regWr off width w (s.moveResets d) = (regWr off width w s).moveResets d := by
  unfold regWr
  split
  · rfl
  · next r _ =>
    cases r <;> simp only [writeReg]
    case err => rfl
    case patchPush => exact unlessBusy_moveResets (pushPid_moveResets w s)
    all_goals exact unlessBusy_moveResets rfl

theorem bufWr_moveResets (a width : Nat) (b : Byte) (s : State) :
    bufWr a width b (s.moveResets d) = (bufWr a width b s).moveResets d := by
  unfold bufWr
  split
  · exact unlessBusy_moveResets rfl
  · rfl

theorem bufRd_moveResets {a width : Nat} {s : State}
    (h : ∀ c ∈ transactionReads (.bufRd a width) s, s.written c = true) :
    bufRd a width (s.moveResets d) = ((bufRd a width s).1, (bufRd a width s).2.moveResets d) := by
  unfold bufRd
  rw [show (s.moveResets d).busy = s.busy from rfl]
  split
  · next hin =>
    split
    · rfl
    · next hidle => rw [byteAt_moveResets (h a (by simp [transactionReads, hin, hidle]))]
  · rfl

/-- Of all transactions only a legal BUF_RD while BUSY = 0 reads a byte (R104). -/
theorem transact_moveResets {x : Transaction} {s : State} (h : ∀ a ∈ transactionReads x s, s.written a = true) :
    transact x (s.moveResets d) = ((transact x s).1, (transact x s).2.moveResets d) := by
  cases x <;> simp only [transact]
  case regRd => rw [regRd_moveResets]
  case regWr => rw [regWr_moveResets]
  case bufRd => rw [bufRd_moveResets h]
  case bufWr => rw [bufWr_moveResets]

theorem perform_moveResets {x : Transaction} {s : State} (h : ∀ a ∈ transactionReads x s, s.written a = true)
    (rest : List HostOp) : perform x rest (s.moveResets d) = (perform x rest s).moveResets d := by
  rw [perform, transact_moveResets h]
  rfl

theorem engineStep_moveResets {s : State}
    (h : ∀ i, s.busy = true → decode s.latchedCmd = .ok i → ∀ a ∈ commandReads i s, s.written a = true) :
    engineStep (s.moveResets d) = mapNext (State.moveResets d) (engineStep s) := by
  cases hb : s.busy with
  | false => rw [engineStep_idle hb, engineStep_idle (s := s.moveResets d) hb]; rfl
  | true =>
    cases hd : decode s.latchedCmd with
    | error e => rw [engineStep_illegal hb hd, engineStep_illegal (s := s.moveResets d) hb hd]; rfl
    | ok i =>
      rw [engineStep_of_decode hb hd, engineStep_of_decode (s := s.moveResets d) hb hd]
      exact exec_moveResets (h i hb hd)

end

theorem nextReads_transaction {s : State} {x : Transaction} {rest : List HostOp} (hturn : s.turn = .host)
    (hp : s.hostProgram = .transaction x :: rest) : s.nextReads = transactionReads x s := by
  rw [State.nextReads, State.nextTransaction, hturn, hp]

theorem nextReads_engine {s : State} {i : Instr} (hturn : s.turn = .engine) (hb : s.busy = true)
    (hd : decode s.latchedCmd = .ok i) : s.nextReads = commandReads i s := by
  rw [State.nextReads, nextTransaction_engine hturn, State.engineReads, hturn, hb, hd]

/-- A step that reads written bytes only does the same whatever the draws, by whose turn it is. -/
theorem step_moveResets {s : State} (h : ∀ a ∈ s.nextReads, s.written a = true) (d : Nat) :
    step (s.moveResets d) = mapNext (State.moveResets d) (step s) := by
  have hsame : (s.moveResets d).turn = s.turn := rfl
  cases hturn : s.turn with
  | reset =>
    have hresets : s.resets + d + 1 = s.resets + 1 + d := by omega
    rw [step_reset hturn, step_reset (hsame.trans hturn)]
    exact congrArg (fun n => Host.Outcome.next { resetBlock s.popTurn with resets := n }) hresets
  | engine =>
    rw [step_engine hturn, step_engine (hsame.trans hturn)]
    refine engineStep_moveResets (s := s.popTurn) fun i hb hd => ?_
    rw [nextReads_engine hturn hb hd] at h
    exact h
  | host =>
    match hp : s.hostProgram with
    | [] =>
      rw [step_host hturn, step_host (hsame.trans hturn), hostStep_nil (s := s.popTurn) hp,
        hostStep_nil (s := (s.moveResets d).popTurn) hp]
      rfl
    | .transaction x :: rest =>
      rw [nextReads_transaction hturn hp] at h
      rw [step_transaction hturn hp, step_transaction (s := s.moveResets d) hturn hp]
      exact congrArg _ (perform_moveResets (s := s.popTurn) h rest)
    | .poll :: rest =>
      rw [step_poll hturn hp, step_poll (s := s.moveResets d) hturn hp]
      exact congrArg _ (perform_moveResets (s := s.popTurn) (fun _ h => absurd h List.not_mem_nil) _)

theorem State.writesFirst.now {s : State} (h : s.writesFirst) : ∀ a ∈ s.nextReads, s.written a = true := h 0 s rfl

theorem State.writesFirst.step {s t : State} (h : s.writesFirst) (hstep : Machine.step s = .next t) : t.writesFirst :=
  fun k u hrun => h (k + 1) u ((run_succ Sys2Proof.core hstep k).trans hrun)

/-- Settles O52, by induction on the steps of the run: each reads written bytes only, and the run goes on likewise. -/
theorem runsThatWriteFirstIgnoreTheDraws : Obligations.RunsThatWriteFirstIgnoreTheDraws := by
  intro s t k d hfirst hrun
  change Sys2Proof.core.run k (s.moveResets d) = .next (t.moveResets d)
  induction k generalizing s with
  | zero => cases hrun; rfl
  | succ k ih =>
    obtain ⟨u, hu⟩ := everyStepHasANextState s
    have hmoved : step (s.moveResets d) = .next (u.moveResets d) := by rw [step_moveResets hfirst.now, hu]; rfl
    have hrest := (run_succ Sys2Proof.core hu k).symm.trans hrun
    exact (run_succ Sys2Proof.core hmoved k).trans (ih u (hfirst.step hu) hrest)

end Sys2Proof.Machine
end
